-- ==== Sys2Proof/Word.lean ====
section
/-! DEFINITION. The plainest types of the model: bytes, addresses, and the numbers that name lines, pairs,
references, delivery lines and channels (spec/00_scope.md, "Naming of lines, pairs, references and channels"). -/

namespace Sys2Proof

/-- One byte of a frame, a command or a label message. -/
abbrev Byte := BitVec 8

/-- A 6-byte Ethernet address, most significant byte first on the wire. -/
abbrev Mac := BitVec 48

/-- A 6-byte channel key, key field 1 first (R63). -/
abbrev ChannelKey := BitVec 48

/-- Levels of the five strap pins: SA0..SA3 in bits 0..3, NL in bit 4 (the strap value of R146). -/
abbrev Straps := BitVec 5

/-- F0..F7. -/
abbrev LineId := Fin 8

/-- P0..P3. -/
abbrev PairId := Fin 4

/-- REF0, REF1. -/
abbrev RefId := Fin 2

/-- D0, D1. -/
abbrev DlineId := Fin 2

/-- Channels 0..255, the entries of the CHANNEL table. -/
abbrev ChannelId := Fin 256

/-- The position of an edge in its tick, in sixteenths (R2). -/
abbrev Phase := Fin 16

end Sys2Proof
end

