-- ==== Sys2Proof/Syntax.lean ====
section
/-! DEFINITION. The commands of the block: one constructor per row of spec/opcode_table.json, each with what the
outside supplies at that step. A request's arguments are no operands here: they stand in the command frame that
DELIVERY_FRAME_COMPLETION brings, so a request row names the completion of the request the unit is executing (R152). -/

namespace Sys2Proof

/-- The state a link detector reports (R41, R131). -/
inductive LinkState where
  | down
  | up
  deriving DecidableEq, Repr

/-- Rising edges of one tick on the two reference pulse lines: one edge, or an edge on each line in the same tick
(R24, and R36 on events that reach the selector together; DESIGN CHOICE, log 3). -/
inductive PulseEdges where
  | one (ref : RefId) (phase : Phase)
  | both (phase0 phase1 : Phase)
  deriving DecidableEq, Repr

/-- The commands, one per row of spec/opcode_table.json, in the table's order. -/
inductive Instr where
  /-- RESET_N goes low. -/
  | powerOnReset
  /-- RESET_N is released with these levels on the strap pins. -/
  | powerOnResetRelease (straps : Straps)
  /-- The stamping clock has locked to the oscillator. -/
  | stampingClockLock
  /-- Rising edges on the reference pulse lines in the present tick. -/
  | pulseEvent (edges : PulseEdges)
  /-- The discipline computation in flight completes. -/
  | disciplineCompletion
  /-- The holdover limit is reached. -/
  | holdoverExpiry
  /-- The pulse timeout of a monitor expires. -/
  | pulseTimeoutExpiry (ref : RefId)
  /-- Byte 10 of a label message is received, without a framing error. -/
  | labelMessageCompletion (ref : RefId) (lastByte : Byte)
  /-- A byte with a framing error is received during collection. -/
  | labelFramingError (ref : RefId)
  /-- The link detector of a feed line reports a link state. -/
  | feedLinkChange (line : LineId) (link : LinkState)
  /-- A frame starts on a feed line, at this phase of the present tick. -/
  | startOfFrame (line : LineId) (phase : Phase)
  /-- The frame in reception on a feed line ends: its bytes to the last FCS byte, and whether the line coding
  signalled a receive error within it (DESIGN CHOICE, log 5: the bytes come with the completion). -/
  | frameCompletion (line : LineId) (bytes : List Byte) (receiveError : Bool)
  /-- The silence timer of a feed line expires. -/
  | silenceTimerExpiry (line : LineId)
  /-- The arbiter of a pair takes a record. -/
  | takingEvent (pair : PairId)
  /-- The gap timer of a channel expires. -/
  | gapTimerExpiry (channel : ChannelId)
  /-- The link detector of a delivery line reports a link state. -/
  | deliveryLinkChange (dline : DlineId) (link : LinkState)
  /-- The send or discard of a delivery line completes. -/
  | transmitCompletion (dline : DlineId)
  /-- A frame received on a delivery line completes: its bytes to the last FCS byte, and whether a receive error was
  signalled within it. -/
  | deliveryFrameCompletion (dline : DlineId) (bytes : List Byte) (receiveError : Bool)
  | identify
  | readTime
  | readReference
  | readCountersLine
  | readCountersPair
  | readCountersDelivery
  | readChannels
  | readLag
  | readNotices
  | tableRead
  | lineEntryWrite
  | profileEntryWrite
  | channelEntryWrite
  | referenceEntryWrite
  | timebaseEntryWrite
  | noticeEntryWrite
  | deliveryEntryWrite
  | setLineMode
  | setTime
  | trimRate
  | clearFeeds
  | clearNotices
  | restart
  /-- The notice spacing timer expires. -/
  | spacingTimerExpiry
  /-- A byte completes on the label line of a reference. -/
  | labelByteReceived (ref : RefId) (byte : Byte) (framingError : Bool)
  /-- A tick of the stamping clock; `straps` are the levels on the strap pins in that tick. -/
  | tick (straps : Straps)
  deriving DecidableEq, Repr

end Sys2Proof
end

