-- ==== Sys2Proof/WellFormed.lean ====
section
/-! DEFINITION. Which commands are well formed. The bounds of line, pair, reference, delivery line and channel
numbers are in the operand types; what is left is that a frame that completes has at least one byte (R48 note 5: a
fragment of even one byte is a frame). -/

namespace Sys2Proof

/-- Whether a command can be sent at all. -/
def Instr.wellFormed : Instr → Bool
  | .frameCompletion _ bytes _ => !bytes.isEmpty
  | .deliveryFrameCompletion _ bytes _ => !bytes.isEmpty
  | .powerOnReset => true
  | .powerOnResetRelease _ => true
  | .stampingClockLock => true
  | .pulseEvent _ => true
  | .disciplineCompletion => true
  | .holdoverExpiry => true
  | .pulseTimeoutExpiry _ => true
  | .labelMessageCompletion _ _ => true
  | .labelFramingError _ => true
  | .feedLinkChange _ _ => true
  | .startOfFrame _ _ => true
  | .silenceTimerExpiry _ => true
  | .takingEvent _ => true
  | .gapTimerExpiry _ => true
  | .deliveryLinkChange _ _ => true
  | .transmitCompletion _ => true
  | .identify => true
  | .readTime => true
  | .readReference => true
  | .readCountersLine => true
  | .readCountersPair => true
  | .readCountersDelivery => true
  | .readChannels => true
  | .readLag => true
  | .readNotices => true
  | .tableRead => true
  | .lineEntryWrite => true
  | .profileEntryWrite => true
  | .channelEntryWrite => true
  | .referenceEntryWrite => true
  | .timebaseEntryWrite => true
  | .noticeEntryWrite => true
  | .deliveryEntryWrite => true
  | .setLineMode => true
  | .setTime => true
  | .trimRate => true
  | .clearFeeds => true
  | .clearNotices => true
  | .restart => true
  | .spacingTimerExpiry => true
  | .labelByteReceived _ _ _ => true
  | .tick _ => true

end Sys2Proof
end

