-- ==== Sys2Proof/Decode.lean ====
section
/-! DEFINITION. spec/opcode_table.json gives no row any bits (every row's "fields" is empty): the part's commands are
events and requests, not instruction words. So no word spells a command (log 13). -/

namespace Sys2Proof

/-- The command a word spells by the table's bits: none, since the table gives no row a bit. -/
def decodeTableWord (_nbits _w : Nat) : Option Instr := none

end Sys2Proof
end

