-- ==== Sys2Proof/Config.lean ====
section
/-! DEFINITION. The fixed numbers of the OCL-8400. The spec leaves no value of this part open, so nothing here is a
free value: each constant is written in the rule it cites. -/

namespace Sys2Proof.Config

/-- W_nom, 2.5 ns per tick in 2^-32 ns (R3). -/
def nominalRate : Int := 10737418240

/-- The clamp of rate words, W_nom ± 2,097,152 (R17). -/
def rateSpan : Int := 2097152

/-- Distance from a base fine count to the effective point of a new record (R4): 4,096 ticks. -/
def effectiveLead : Nat := 65536

/-- Time units (2^-32 ns) in one nanosecond. -/
def unitsPerNs : Int := 4294967296

/-- Time units in one second: 10^9 × 2^32. -/
def unitsPerSecond : Int := 4294967296000000000

/-- Time units in one stamp unit: 2^24 (R6). -/
def unitsPerStamp : Int := 16777216

/-- Stamp units (1/256 ns) in one second (R6). -/
def stampsPerSecond : Nat := 256000000000

/-- Ticks in one second, one millisecond and one microsecond of the part's timers. -/
def ticksPerSecond : Nat := 400000000
def ticksPerMs : Nat := 400000
def ticksPerUs : Nat := 400

/-- Fine counts of one nominal second (R28). -/
def fineCountsPerSecond : Nat := 6400000000

/-- The largest value of a 32-bit counter (spec/00_scope.md, "Numbers, byte order and counters"). -/
def counterMax : Nat := 4294967295

/-- Capacities: line buffer (R52), hold pool (R98), delivery queue (R91), twin window (R119), reply queue (R140),
command inbox (R148). -/
def lineBufferSize : Nat := 64
def holdPoolSize : Nat := 128
def deliveryQueueSize : Nat := 128
def twinWindowSize : Nat := 64
def replyQueueSize : Nat := 4
def inboxSize : Nat := 4

/-- Largest reply before its FCS, in bytes (R153). -/
def replyLimit : Nat := 2044

/-- The revision code IDENTIFY returns (R155). -/
def revision : Nat := 1

/-- The all-ones broadcast address. -/
def broadcast : Mac := 0xFFFFFFFFFFFF

end Sys2Proof.Config
end

