-- ==== Sys2Proof/Machine/State.lean ====
section
/-! DEFINITION. The state of the part as plain data, block by block (spec/00_scope.md, "Block overview"), and its
value right after the release of power-on reset. Where the spec gives two names to one fact (a pending flag and a
non-zero repeat count, a running timer and its expiry tick), State holds it once and Ops.lean computes the other. -/

namespace Sys2Proof.Machine

/-! ## Clock and reset (R1, R178) -/

/-- RESET_N and the stamping clock: pin low; released, clock not yet locked; running. -/
inductive ClockState where
  | resetHeld
  | awaitingLock
  | running
  deriving DecidableEq, Repr

/-! ## Time base (chapter 1) -/

/-- An anchor record {F_a, A, W} (R3). -/
structure AnchorRecord where
  /-- F_a, a fine count. -/
  effective : Nat
  /-- A, in 2^-32 ns since epoch 0. -/
  time : Int
  /-- W, in 2^-32 ns per tick. -/
  rate : Int
  deriving DecidableEq, Repr

/-- The inputs a discipline computation takes at its pulse event (R12). -/
structure Discipline where
  capture : Nat
  previousCapture : Nat
  /-- S, in 2^-32 ns. -/
  labelTime : Int
  /-- D_ref, in 2^-32 ns. -/
  pulseDelay : Int
  stepThreshold : Nat
  lockLimit : Nat
  lockCount : Nat
  slewGain : Nat
  previous : AnchorRecord
  current : AnchorRecord
  deriving DecidableEq, Repr

/-- The five states of the time base (section 1.4). -/
inductive TimeBaseState where
  | unset
  | free
  | acquiring
  | locked
  | holdover
  deriving DecidableEq, Repr

structure TimeBase where
  previous : AnchorRecord
  current : AnchorRecord
  state : TimeBaseState
  lockRun : Nat
  outlierRun : Nat
  lastError : Int
  stepCount : Nat
  holdoverEntryTick : Nat
  holdoverExpired : Bool
  /-- The discipline computation in flight, if any. -/
  discipline : Option Discipline
  deriving DecidableEq, Repr

/-! ## Reference monitors (chapter 2) -/

inductive MonitorState where
  | absent
  | qualifying
  | good
  deriving DecidableEq, Repr

/-- A label: the seconds of the next pulse and the traceable flag (R26). -/
structure Label where
  seconds : Nat
  traceable : Bool
  deriving DecidableEq, Repr

/-- The label receiver: stopped (reference disabled, R34), hunting, or collecting with the bytes kept so far (R25). -/
inductive LabelReceiver where
  | stopped
  | hunting
  | collecting (bytes : List Byte)
  deriving DecidableEq, Repr

/-- The reference point: a capture and its label seconds, if it had any (R29). -/
structure ReferencePoint where
  capture : Nat
  seconds : Option Nat
  deriving DecidableEq, Repr

structure Monitor where
  state : MonitorState
  qualifyCount : Nat
  refPoint : ReferencePoint
  receiver : LabelReceiver
  slot : Option Label
  lastLabelSeconds : Nat
  goodPulses : Nat
  badPulses : Nat
  misses : Nat
  badLabels : Nat
  deriving DecidableEq, Repr

/-! ## Feed lines (chapter 3) -/

inductive LineMode where
  | off
  | monitor
  | live
  deriving DecidableEq, Repr

/-- A frame in reception: its capture and the bytes received so far (R45, R46). -/
structure FrameInReception where
  capture : Nat
  bytes : List Byte
  deriving DecidableEq, Repr

/-- A frame record (R51). Its length field is the number of its bytes. -/
structure FrameRecord where
  bytes : List Byte
  line : LineId
  capture : Nat
  /-- T256 after the line delay and the clamp to 0. -/
  stamp : Nat
  quality : Nat
  deriving DecidableEq, Repr

/-- The last arrival stamp, as T256, with its quality code (R57). -/
structure Arrival where
  stamp : Nat
  quality : Nat
  deriving DecidableEq, Repr

structure LineCounters where
  goodFrames : Nat
  fcsErrors : Nat
  runts : Nat
  oversize : Nat
  overflow : Nat
  truncated : Nat
  flushed : Nat
  linkFlaps : Nat
  deriving DecidableEq, Repr

structure FeedLine where
  link : LinkState
  mode : LineMode
  reception : Option FrameInReception
  /-- Line buffer, head first. -/
  buffer : List FrameRecord
  /-- The tick at which the running silence timer started; none when it is stopped (R54). -/
  silenceStart : Option Nat
  silent : Bool
  lastArrival : Arrival
  counters : LineCounters
  deriving DecidableEq, Repr

/-! ## Pair arbiters (chapters 4 to 7) -/

/-- A listed frame: a record with what the classifier found (R64); also what a slot of the hold pool keeps (R98). -/
structure ListedFrame where
  record : FrameRecord
  channel : ChannelId
  s : Nat
  n : Nat
  deriving DecidableEq, Repr

/-- The eight flags of a delivery entry (R89). -/
structure DeliveryFlags where
  gapBefore : Bool := false
  overlap : Bool := false
  seqReset : Bool := false
  released : Bool := false
  unlisted : Bool := false
  undecodable : Bool := false
  dropBefore : Bool := false
  heartbeat : Bool := false
  deriving DecidableEq, Repr

/-- The channel, s and n a delivery entry carries; absent for an unlisted frame (R89). -/
structure Listing where
  channel : ChannelId
  s : Nat
  n : Nat
  deriving DecidableEq, Repr

/-- An entry of a delivery queue (R89). -/
structure DeliveryEntry where
  record : FrameRecord
  listing : Option Listing
  gapCount : Nat
  flags : DeliveryFlags
  deriving DecidableEq, Repr

/-- DATA or BEAT (R65). -/
inductive FrameKind where
  | data
  | beat
  deriving DecidableEq, Repr

/-- An entry of the twin window (section 7.1). -/
structure TwinEntry where
  channel : ChannelId
  s : Nat
  kind : FrameKind
  line : LineId
  stamp : Nat
  deriving DecidableEq, Repr

/-- The ten lag statistics (section 7.4). -/
structure LagStats where
  samples : Nat
  aFirst : Nat
  bFirst : Nat
  ties : Nat
  minLag : Int
  maxLag : Int
  lagSum : Int
  lastLag : Int
  singleSided : Nat
  sameLineRepeats : Nat
  deriving DecidableEq, Repr

/-- The fifteen pair counters (R93). -/
structure PairCounters where
  taken : Nat
  delivered : Nat
  twins : Nat
  sameLineRepeats : Nat
  late : Nat
  conflicts : Nat
  superseded : Nat
  unlistedDelivered : Nat
  unlistedDropped : Nat
  undecodable : Nat
  lostGaps : Nat
  lostMessages : Nat
  forcedReleases : Nat
  deliveryDrops : Nat
  flushed : Nat
  deriving DecidableEq, Repr

structure PairArbiter where
  /-- Hold pool. The frames of one channel stand in ascending order of start offset (R99); frames of different
  channels are not ordered against one another. -/
  pool : List ListedFrame
  /-- Twin window, oldest first. -/
  window : List TwinEntry
  lag : LagStats
  dropBefore : Bool
  /-- Delivery queue, head first. -/
  queue : List DeliveryEntry
  counters : PairCounters
  /-- The tick of the previous taking, or of the event that gave a record to the pair's empty buffers if that came
  later (R73); none before either. -/
  serviceTick : Option Nat
  deriving DecidableEq, Repr

/-- Channel sequence state (R75): X is present except in UNSEEN, and the gap timer runs exactly in GAP_OPEN. -/
inductive SequenceState where
  | unseen
  | inStep (x : Nat)
  | gapOpen (x : Nat) (expiryTick : Nat)
  deriving DecidableEq, Repr

structure Channel where
  sequence : SequenceState
  gapOpenTick : Nat
  lostGaps : Nat
  lostMessages : Nat
  deriving DecidableEq, Repr

/-! ## Delivery lines (chapter 8) -/

/-- What a transmission carries (R132). -/
inductive TransmitKind where
  | feed
  | reply
  | notice
  deriving DecidableEq, Repr

/-- A send or discard in flight. -/
structure Transmission where
  kind : TransmitKind
  /-- The whole frame, byte 0 to the last FCS byte. -/
  bytes : List Byte
  /-- The tick of the choice, counted on the present tick count (negative when a RESTART has set the count back since);
  none when the stamping clock was not running then. -/
  started : Option Int
  /-- False after a RESTART: its completion then increases no counter (R145). -/
  counted : Bool
  deriving DecidableEq, Repr

inductive Transmitter where
  | idle
  | sending (t : Transmission)
  | discarding (t : Transmission)
  deriving DecidableEq, Repr

/-- A reply in a reply queue, without FCS (R135), and whether its departure starts RESTART (R160). -/
structure Reply where
  frame : List Byte
  startsRestart : Bool
  deriving DecidableEq, Repr

structure DeliveryCounters where
  feedSent : Nat
  repliesSent : Nat
  noticesSent : Nat
  discarded : Nat
  foreign : Nat
  commandsAccepted : Nat
  deriving DecidableEq, Repr

structure DeliveryLine where
  link : LinkState
  transmitter : Transmitter
  lastPairServed : PairId
  /-- Reply queue, head first. -/
  replies : List Reply
  /-- The frame in reception, as the bytes received so far. -/
  reception : Option (List Byte)
  counters : DeliveryCounters
  deriving DecidableEq, Repr

/-! ## Management unit (chapter 9) -/

/-- A command in the inbox (R148): the frame without its FCS, the receiving line, and whether it is a broadcast. -/
structure InboxCommand where
  frame : List Byte
  dline : DlineId
  broadcast : Bool
  deriving DecidableEq, Repr

/-- The seven statuses (R150). -/
inductive Status where
  | done
  | limited
  | busy
  | badArgument
  | unknown
  | skipped
  | refused
  deriving DecidableEq, Repr

/-- One request of a command: its kind byte and its argument bytes (R149). -/
structure Request where
  kind : Byte
  args : List Byte
  deriving DecidableEq, Repr

/-- One result of a reply (R153). -/
structure Result where
  kind : Byte
  status : Status
  data : List Byte
  deriving DecidableEq, Repr

/-- The command in flight (R149, R152). -/
structure CommandInFlight where
  dline : DlineId
  broadcast : Bool
  source : Mac
  token : BitVec 16
  stopOnFault : Bool
  /-- The requests not yet completed; the head is the one being executed. -/
  remaining : List Request
  /-- The results kept so far, in order. -/
  results : List Result
  /-- Entries written so far by the TABLE_WRITE being executed, and whether one of them was clamped (R158). -/
  written : Nat
  clamped : Bool
  deriving DecidableEq, Repr

/-- The management unit (R147). -/
inductive UnitState where
  | idle
  | executing (command : CommandInFlight)
  | restartPending
  deriving DecidableEq, Repr

/-! ## Configuration tables (R176) -/

/-- LINE entry (section 3.7). -/
structure LineEntry where
  lineDelay : Nat
  silenceLimit : Nat
  deriving DecidableEq, Repr

/-- PROFILE entry (section 4.1). -/
structure ProfileEntry where
  enabled : Bool
  keyOffset1 : Nat
  keyOffset2 : Nat
  sequenceOffset : Nat
  sequenceWidth : Nat
  littleEndian : Bool
  countOffset : Nat
  countWidth : Nat
  dropUnlisted : Bool
  deliveryLine : DlineId
  deriving DecidableEq, Repr

/-- CHANNEL entry (section 4.2). -/
structure ChannelEntry where
  enabled : Bool
  pair : PairId
  key : ChannelKey
  gapWait : Nat
  resetExponent : Nat
  deriving DecidableEq, Repr

/-- REFERENCE entry (section 2.5). -/
structure ReferenceEntry where
  enabled : Bool
  pulseDelay : Nat
  qualifyCount : Nat
  tolerance : Nat
  deriving DecidableEq, Repr

/-- TIMEBASE entry (section 1.8). -/
structure TimebaseEntry where
  stepThreshold : Nat
  lockLimit : Nat
  lockCount : Nat
  slewGain : Nat
  holdoverLimit : Nat
  preferred : RefId
  revertive : Bool
  deriving DecidableEq, Repr

/-- NOTICE entry (section 10.2); masks and ranks of TIME, LINE, FEED, MGMT in that order. -/
structure NoticeEntry where
  globalEnable : Bool
  masks : Vector Bool 4
  ranks : Vector Nat 4
  spacing : Nat
  noticeLine : DlineId
  destination : Mac
  deriving DecidableEq, Repr

/-- DELIVERY entry (section 8.6). -/
structure DeliveryTableEntry where
  groupOrder : Fin 6
  rotating : Bool
  deriving DecidableEq, Repr

structure Tables where
  line : Vector LineEntry 8
  profile : Vector ProfileEntry 4
  channel : Vector ChannelEntry 256
  reference : Vector ReferenceEntry 2
  timebase : TimebaseEntry
  notice : NoticeEntry
  delivery : Vector DeliveryTableEntry 2
  deriving DecidableEq, Repr

/-! ## Notice unit (chapter 10) -/

structure NoticeUnit where
  /-- Repeat count of each of the 52 sources; a source is pending exactly while its count is above 0 (R164). -/
  counts : Vector Nat 52
  /-- The notice frame in the slot, without FCS. -/
  slot : Option (List Byte)
  /-- The tick at which the running spacing timer started; none when it is stopped. -/
  spacingStart : Option Nat
  deriving DecidableEq, Repr

/-! ## The whole part -/

/-- The state of the part, and the queue of commands waiting to act on it. -/
structure State where
  clock : ClockState
  /-- The tick count (R1), without an upper end (DEDUCED, log 8). -/
  tick : Nat
  /-- Levels on the strap pins (DESIGN CHOICE, log 4). -/
  strapPins : Straps
  /-- The strap latch (R146). -/
  strapLatch : Straps
  timeBase : TimeBase
  monitors : Vector Monitor 2
  /-- The selected reference (section 2.7). -/
  selected : Option RefId
  lines : Vector FeedLine 8
  pairs : Vector PairArbiter 4
  channels : Vector Channel 256
  deliveries : Vector DeliveryLine 2
  unit : UnitState
  inbox : List InboxCommand
  tables : Tables
  notices : NoticeUnit
  /-- The commands waiting, first in, first out: the model's own field, the block's input. -/
  pending : List Instr
  deriving DecidableEq, Repr

/-! ## Reset values -/

/-- R3. -/
def AnchorRecord.reset : AnchorRecord := ⟨0, 0, Config.nominalRate⟩

/-- Section 1.9. -/
def TimeBase.reset : TimeBase where
  previous := .reset
  current := .reset
  state := .unset
  lockRun := 0
  outlierRun := 0
  lastError := 0
  stepCount := 0
  holdoverEntryTick := 0
  holdoverExpired := false
  discipline := none

/-- R35. -/
def Monitor.reset : Monitor where
  state := .absent
  qualifyCount := 0
  refPoint := ⟨0, none⟩
  receiver := .hunting
  slot := none
  lastLabelSeconds := 0
  goodPulses := 0
  badPulses := 0
  misses := 0
  badLabels := 0

def LineCounters.zero : LineCounters := ⟨0, 0, 0, 0, 0, 0, 0, 0⟩

/-- R58. -/
def FeedLine.reset : FeedLine where
  link := .down
  mode := .off
  reception := none
  buffer := []
  silenceStart := none
  silent := false
  lastArrival := ⟨0, 0⟩
  counters := .zero

/-- R130: the empty lag statistics. -/
def LagStats.empty : LagStats := ⟨0, 0, 0, 0, 0, 0, 0, 0, 0, 0⟩

def PairCounters.zero : PairCounters := ⟨0, 0, 0, 0, 0, 0, 0, 0, 0, 0, 0, 0, 0, 0, 0⟩

/-- R97. -/
def PairArbiter.reset : PairArbiter where
  pool := []
  window := []
  lag := .empty
  dropBefore := false
  queue := []
  counters := .zero
  serviceTick := none

/-- R97, R118. -/
def Channel.reset : Channel := ⟨.unseen, 0, 0, 0⟩

def DeliveryCounters.zero : DeliveryCounters := ⟨0, 0, 0, 0, 0, 0⟩

/-- R145. -/
def DeliveryLine.reset : DeliveryLine where
  link := .down
  transmitter := .idle
  lastPairServed := 3
  replies := []
  reception := none
  counters := .zero

/-- R59: disabled, delivery line p mod 2, 0 in every other field. -/
def ProfileEntry.reset (d : DlineId) : ProfileEntry := ⟨false, 0, 0, 0, 0, false, 0, 0, false, d⟩

/-- R60. -/
def ChannelEntry.reset : ChannelEntry := ⟨false, 0, 0, 0, 0⟩

/-- Section 2.5. -/
def ReferenceEntry.reset : ReferenceEntry := ⟨true, 0, 8, 40000⟩

/-- Section 1.8. -/
def TimebaseEntry.reset : TimebaseEntry := ⟨1000, 100, 4, 2, 3600, 0, false⟩

/-- Section 10.2, with the notice line that the latched NL gives (R162). -/
def NoticeEntry.reset (noticeLine : DlineId) : NoticeEntry where
  globalEnable := false
  masks := Vector.replicate 4 false
  ranks := #v[0, 1, 2, 3]
  spacing := 1000
  noticeLine := noticeLine
  destination := Config.broadcast

/-- The table defaults of section 9.8. -/
def Tables.reset (noticeLine : DlineId) : Tables where
  line := Vector.replicate 8 ⟨0, 0⟩
  profile := #v[.reset 0, .reset 1, .reset 0, .reset 1]
  channel := Vector.replicate 256 .reset
  reference := Vector.replicate 2 .reset
  timebase := .reset
  notice := .reset noticeLine
  delivery := Vector.replicate 2 ⟨0, true⟩

/-- R171. -/
def NoticeUnit.reset : NoticeUnit := ⟨Vector.replicate 52 0, none, none⟩

/-- Right after the release of power-on reset (R178), with every strap pin low (a pin left open reads low; DESIGN CHOICE,
log 4): every block at its reset values, the stamping clock not yet locked, no command waiting (log 13). -/
def State.reset : State where
  clock := .awaitingLock
  tick := 0
  strapPins := 0
  strapLatch := 0
  timeBase := .reset
  monitors := Vector.replicate 2 .reset
  selected := none
  lines := Vector.replicate 8 .reset
  pairs := Vector.replicate 4 .reset
  channels := Vector.replicate 256 .reset
  deliveries := Vector.replicate 2 .reset
  unit := .idle
  inbox := []
  tables := .reset 0
  notices := .reset
  pending := []

/-! ## Outcomes -/

/-- Why a step stops with a fault. The spec describes no event that stops the part, so there is no reason: the type is
empty, and no step ever faults. -/
inductive Fault where
  deriving DecidableEq, Repr

/-- Why a step has no meaning. -/
inductive Refusal where
  /-- A row of the table that has no meaning yet: raised by an arm of `exec` alone, and by none of them now. Safe. -/
  | notModelled (mnemonic : String)
  deriving DecidableEq, Repr

end Sys2Proof.Machine
end

