-- ==== Sys2Proof/Machine/Operands.lean ====
section
/-! DEFINITION. Reading and writing the part's fields: byte orders (R64, R172), fields written at the nearer end of
their width (R172), the frame check sequence (R133), and counters that saturate. -/

namespace Sys2Proof.Machine

/-! ## Counters -/

/-- Add to a 32-bit saturating counter (spec/00_scope.md, "Numbers, byte order and counters"). -/
def satAdd (c k : Nat) : Nat := min (c + k) Config.counterMax

/-- Increase a 32-bit saturating counter by one. -/
def satInc (c : Nat) : Nat := satAdd c 1

/-! ## Multi-byte fields -/

/-- Most significant byte first. -/
def bigEndian (bs : List Byte) : Nat := bs.foldl (fun a b => a * 256 + b.toNat) 0

/-- Least significant byte first. -/
def littleEndian (bs : List Byte) : Nat := bigEndian bs.reverse

/-- The low `k` bytes of `v`, most significant first. -/
def natBytes : Nat → Nat → List Byte
  | 0, _ => []
  | k + 1, v => BitVec.ofNat 8 (v / 256 ^ k) :: natBytes k v

/-- An unsigned field of `k` bytes; a value too large is written as the largest (R172). -/
def field (k v : Nat) : List Byte := natBytes k (min v (256 ^ k - 1))

/-- A signed field of `k` bytes in two's complement; a value out of range is written at the nearer end (R172). -/
def signedField (k : Nat) (v : Int) : List Byte :=
  let half : Int := 256 ^ k / 2
  natBytes k ((max (-half) (min v (half - 1))) % (256 ^ k : Int)).toNat

/-- A one-byte flag, condition or mark: 0 clear, 1 set (R172). -/
def boolField (b : Bool) : List Byte := [if b then 1 else 0]

/-- A 6-byte address or key. -/
def macField (m : BitVec 48) : List Byte := natBytes 6 m.toNat

/-- `k` bytes from offset `o`. -/
def slice (bs : List Byte) (o k : Nat) : List Byte := (bs.drop o).take k

/-- The unsigned big-endian number of `k` bytes at offset `o`. -/
def numAt (bs : List Byte) (o k : Nat) : Nat := bigEndian (slice bs o k)

/-- The six bytes at offset `o` as an address or key. -/
def macAt (bs : List Byte) (o : Nat) : BitVec 48 := BitVec.ofNat 48 (numAt bs o 6)

/-- The signed big-endian number of `k` bytes at offset `o`. -/
def signedAt (bs : List Byte) (o k : Nat) : Int :=
  let v := numAt bs o k
  if 2 * v < 256 ^ k then v else (v : Int) - 256 ^ k

/-! ## The frame check sequence (R133) -/

/-- One bit into the check register: the generator is 0x04C11DB7. -/
def crcBit (r : BitVec 32) (bit : Bool) : BitVec 32 :=
  if r.getLsbD 31 != bit then (r <<< 1) ^^^ 0x04C11DB7 else r <<< 1

/-- One byte, least significant bit first. -/
def crcByte (r : BitVec 32) (b : Byte) : BitVec 32 :=
  [0, 1, 2, 3, 4, 5, 6, 7].foldl (fun r i => crcBit r (b.getLsbD i)) r

/-- The complemented remainder, the register starting at all ones. -/
def crc (bs : List Byte) : BitVec 32 := ~~~(bs.foldl crcByte 0xFFFFFFFF)

/-- The four FCS bytes of a frame: the coefficient of x^31 is sent first, each byte least significant bit first. -/
def fcs (bs : List Byte) : List Byte :=
  let r := crc bs
  [0, 1, 2, 3].map fun i =>
    [0, 1, 2, 3, 4, 5, 6, 7].foldl (fun (b : Byte) j => if r.getLsbD (31 - 8 * i - j) then b ||| (1 <<< j) else b) 0

/-- A frame without its last four bytes. -/
def withoutFcs (bs : List Byte) : List Byte := bs.take (bs.length - 4)

/-- A frame with its FCS. -/
def withFcs (bs : List Byte) : List Byte := bs ++ fcs bs

/-- The last four bytes are the FCS of those before them. -/
def fcsMatches (bs : List Byte) : Bool := bs.drop (bs.length - 4) == fcs (withoutFcs bs)

/-- Zero bytes up to 60 before the FCS (R135). -/
def padFrame (bs : List Byte) : List Byte := bs ++ List.replicate (60 - bs.length) 0

/-! ## Codes (R11, R150, R172, R174) -/

def linkCode : LinkState → Nat
  | .down => 0
  | .up => 1

def LineMode.code : LineMode → Nat
  | .off => 0
  | .monitor => 1
  | .live => 2

def MonitorState.code : MonitorState → Nat
  | .absent => 0
  | .qualifying => 1
  | .good => 2

def SequenceState.code : SequenceState → Nat
  | .unseen => 0
  | .inStep _ => 1
  | .gapOpen _ _ => 2

def selectedCode : Option RefId → Nat
  | none => 255
  | some r => r.val

def Status.code : Status → Nat
  | .done => 0
  | .limited => 1
  | .busy => 2
  | .badArgument => 3
  | .unknown => 4
  | .skipped => 5
  | .refused => 6

/-- Whether a status is a fault for stop-on-fault (R150). -/
def Status.isFault : Status → Bool
  | .busy | .badArgument | .unknown | .refused => true
  | .done | .limited | .skipped => false

end Sys2Proof.Machine
end

