-- ==== Sys2Proof/Machine/Flags.lean ====
section
/-! DEFINITION. The flags of a delivered frame (R89): their byte in the stamp trailer (R173) and the flags of each way
a frame reaches the delivery queue. -/

namespace Sys2Proof.Machine

/-- The flags byte of the stamp trailer (R173). -/
def DeliveryFlags.byte (f : DeliveryFlags) : Byte :=
  BitVec.ofNat 8 (f.gapBefore.toNat + 2 * f.overlap.toNat + 4 * f.seqReset.toNat + 8 * f.released.toNat +
    16 * f.unlisted.toNat + 32 * f.undecodable.toNat + 64 * f.dropBefore.toNat + 128 * f.heartbeat.toNat)

/-- Case 1, and case 4 with d = 0: no flag of its own. -/
def DeliveryFlags.none : DeliveryFlags := { gapBefore := false }

/-- Case 5 with gap wait 0 (R84). -/
def DeliveryFlags.ofGap : DeliveryFlags := { gapBefore := true }

/-- Case 2 (R79). -/
def DeliveryFlags.ofReset : DeliveryFlags := { seqReset := true }

/-- Case 4: OVERLAP when d is below 0 (R82). -/
def DeliveryFlags.ofInStep (d : Int) : DeliveryFlags := { overlap := decide (d < 0) }

/-- A frame of the release loop: RELEASED, and OVERLAP when its start offset is below 0 (R92). -/
def DeliveryFlags.ofRelease (start : Int) : DeliveryFlags := { released := true, overlap := decide (start < 0) }

/-- A frame of an expiry step (R103). -/
def DeliveryFlags.ofExpiry : DeliveryFlags := { released := true, gapBefore := true }

/-- An unlisted frame (R66). -/
def DeliveryFlags.ofUnlisted (decodable : Bool) : DeliveryFlags := { unlisted := true, undecodable := !decodable }

/-- A heartbeat: GAP_BEFORE when it lies ahead of X (R87). -/
def DeliveryFlags.ofBeat (ahead : Bool) : DeliveryFlags := { heartbeat := true, gapBefore := ahead }

end Sys2Proof.Machine
end

