-- ==== Sys2Proof/Machine/Ops.lean ====
section
/-! DEFINITION. The named operations over State that every family uses: replacing one block of a kind, raising a notice
source (R164), the present instant and quality code (R2, R11), and setting every block to its reset values (R161,
R178). -/

namespace Sys2Proof.Machine

/-! ## Replacing one block -/

def State.setMonitor (s : State) (r : RefId) (m : Monitor) : State := { s with monitors := s.monitors.set r m }
def State.setLine (s : State) (l : LineId) (f : FeedLine) : State := { s with lines := s.lines.set l f }
def State.setPair (s : State) (p : PairId) (a : PairArbiter) : State := { s with pairs := s.pairs.set p a }
def State.setChannel (s : State) (c : ChannelId) (x : Channel) : State := { s with channels := s.channels.set c x }
def State.setDelivery (s : State) (d : DlineId) (x : DeliveryLine) : State :=
  { s with deliveries := s.deliveries.set d x }
def State.setTimeBase (s : State) (t : TimeBase) : State := { s with timeBase := t }
def State.setSelected (s : State) (r : Option RefId) : State := { s with selected := r }
def State.setUnit (s : State) (u : UnitState) : State := { s with unit := u }
def State.setInbox (s : State) (q : List InboxCommand) : State := { s with inbox := q }
def State.setTables (s : State) (t : Tables) : State := { s with tables := t }
def State.setNotices (s : State) (n : NoticeUnit) : State := { s with notices := n }

/-! ## Lines and pairs (spec/00_scope.md, "Naming of lines, pairs, references and channels") -/

/-- The pair of a feed line. -/
def pairOf (l : LineId) : PairId := ⟨l.val / 2, by omega⟩

/-- The A side of a pair, F(2p). -/
def sideA (p : PairId) : LineId := ⟨2 * p.val, by omega⟩

/-- The B side of a pair, F(2p + 1). -/
def sideB (p : PairId) : LineId := ⟨2 * p.val + 1, by omega⟩

/-- The other reference. -/
def otherRef (r : RefId) : RefId := if r = 0 then 1 else 0

/-- A line of the pair is LIVE. -/
def State.pairLive (s : State) (p : PairId) : Bool :=
  s.lines[sideA p].mode == .live || s.lines[sideB p].mode == .live

/-! ## Time -/

/-- The fine count of the present tick with phase 0 (R2). -/
def State.now (s : State) : Nat := s.tick * 16

/-- The quality code (R11). -/
def TimeBase.quality (t : TimeBase) : Nat :=
  match t.state with
  | .unset => 0
  | .free => 1
  | .acquiring => 2
  | .locked => 3
  | .holdover => if t.holdoverExpired then 5 else 4

/-- The clock runs: edges are captured and timers run (R178). -/
def State.clockRuns (s : State) : Bool := s.clock == .running

/-! ## Notice sources (R163, R164) -/

def sourceTbState : Fin 52 := 0
def sourceStep : Fin 52 := 1
def sourceHoldoverExpired : Fin 52 := 2
def sourceRefSwitch : Fin 52 := 3
def sourceRefGood (r : RefId) : Fin 52 := ⟨4 + r.val, by omega⟩
def sourceRefLost (r : RefId) : Fin 52 := ⟨6 + r.val, by omega⟩
def sourceLinkChange (l : LineId) : Fin 52 := ⟨8 + l.val, by omega⟩
def sourceSilent (l : LineId) : Fin 52 := ⟨16 + l.val, by omega⟩
def sourceOverflow (l : LineId) : Fin 52 := ⟨24 + l.val, by omega⟩
def sourceDeliveryLink (d : DlineId) : Fin 52 := ⟨32 + d.val, by omega⟩
def sourceGapLost (p : PairId) : Fin 52 := ⟨34 + p.val, by omega⟩
def sourceSeqReset (p : PairId) : Fin 52 := ⟨38 + p.val, by omega⟩
def sourceForcedRelease (p : PairId) : Fin 52 := ⟨42 + p.val, by omega⟩
def sourceDeliveryDrop (p : PairId) : Fin 52 := ⟨46 + p.val, by omega⟩
def sourceCommandDropped : Fin 52 := 50
def sourceReplyDropped : Fin 52 := 51

/-- Raise a notice source: its repeat count increases by one, saturating at 255 (R164). -/
def State.raise (s : State) (id : Fin 52) : State :=
  s.setNotices { s.notices with counts := s.notices.counts.set id (min (s.notices.counts[id] + 1) 255) }

/-- Every source not pending (R170). -/
def State.clearNoticeSources (s : State) : State :=
  s.setNotices { s.notices with counts := Vector.replicate 52 0 }

/-! ## Straps and reset (R146, R161, R162, R178) -/

/-- The default notice line that NL gives. -/
def noticeLineOf (straps : Straps) : DlineId := if straps.getLsbD 4 then 1 else 0

/-- The station address 02-4F-43-4C-84-0s (R146). -/
def stationAddress (latch : Straps) : Mac := 0x024F434C8400 + BitVec.ofNat 48 (latch.toNat % 16)

/-- Every block at its reset values with the straps so latched; the command queue is the outside's and stays. -/
def State.resetBlocks (s : State) (clock : ClockState) (pins latch : Straps) : State :=
  { State.reset with
    clock := clock
    strapPins := pins
    strapLatch := latch
    tables := .reset (noticeLineOf latch)
    pending := s.pending }

/-- A transmission that a RESTART lets run on: counted on the new tick count, and no longer counted (R145). -/
def Transmission.afterRestart (t : Transmission) (tick : Nat) : Transmission :=
  { t with started := t.started.map (· - (tick : Int)), counted := false }

def Transmitter.afterRestart (t : Transmitter) (tick : Nat) : Transmitter :=
  match t with
  | .idle => .idle
  | .sending x => .sending (x.afterRestart tick)
  | .discarding x => .discarding (x.afterRestart tick)

/-- The start of RESTART (R161): every block takes its reset values and the straps are latched from the pins, but a
send or discard in flight runs on (R145). -/
def State.startRestart (s : State) : State :=
  { s.resetBlocks s.clock s.strapPins s.strapPins with
    deliveries := s.deliveries.map fun d => { DeliveryLine.reset with transmitter := d.transmitter.afterRestart s.tick } }

/-- While RESET_N is low every block holds its reset values and nothing acts (R178). -/
def State.whenReleased (s : State) (f : State → State) : State :=
  if s.clock = .resetHeld then s else f s

/-- Captures and timers act only while the stamping clock runs; everything else acts without it (R178; DEDUCED,
log 9). -/
def State.whenRunning (s : State) (f : State → State) : State :=
  if s.clock = .running then f s else s

end Sys2Proof.Machine
end

