-- ==== Sys2Proof/Machine/Notices.lean ====
section
/-! DEFINITION. The notice unit (chapter 10): levels of the sources, the notice frame, and the build (R166). -/

namespace Sys2Proof.Machine

/-- The level of a notice source: TIME 0, LINE 1, FEED 2, MGMT 3 (R163). -/
def sourceLevel (id : Fin 52) : Fin 4 :=
  if id.val < 8 then 0 else if id.val < 34 then 1 else if id.val < 50 then 2 else 3

/-- The pending sources of a level in ascending order of id. -/
def NoticeUnit.pendingOf (u : NoticeUnit) (level : Fin 4) : List (Fin 52) :=
  (List.finRange 52).filter fun id => sourceLevel id == level && decide (0 < u.counts[id])

/-- The unmasked levels that have a pending source. -/
def State.readyLevels (s : State) : List (Fin 4) :=
  (List.finRange 4).filter fun level => !s.tables.notice.masks[level] && !(s.notices.pendingOf level).isEmpty

/-- A build is allowed (R166). -/
def State.buildAllowed (s : State) : Bool :=
  s.tables.notice.globalEnable && s.notices.slot.isNone && s.notices.spacingStart.isNone && !s.readyLevels.isEmpty

/-- The level of smallest rank, and between equal ranks the one with the smaller level number (R166). -/
def lowestRank (ranks : Vector Nat 4) (first : Fin 4) (others : List (Fin 4)) : Fin 4 :=
  others.foldl (fun best level => if ranks[level] < ranks[best] then level else best) first

/-- The Ethernet and management headers of a frame the part builds (R174). -/
def managementHeader (destination source : Mac) (kind flags : Nat) (token : BitVec 16) (entries : Nat) : List Byte :=
  macField destination ++ macField source ++ [0x88, 0xB5, 0x4F, 0x43] ++ field 1 kind ++ field 1 flags ++
    natBytes 2 token.toNat ++ field 1 entries

/-- The notice frame of a level, without FCS (R167). -/
def State.noticeFrame (s : State) (level : Fin 4) : List Byte :=
  let ids := s.notices.pendingOf level
  managementHeader s.tables.notice.destination (stationAddress s.strapLatch) 3 level.val 0 ids.length ++
    ids.flatMap fun id => field 1 id.val ++ field 1 s.notices.counts[id]

/-- The repeat counts after a build of a level: each source listed is cleared (R166). -/
def NoticeUnit.countsWithout (u : NoticeUnit) (level : Fin 4) : Vector Nat 52 :=
  Vector.ofFn fun id : Fin 52 => if sourceLevel id = level then 0 else u.counts[id]

/-- A build: one frame of one level into the slot (R166). -/
def State.buildLevel (s : State) (level : Fin 4) : State :=
  s.setNotices { s.notices with counts := s.notices.countsWithout level, slot := some (s.noticeFrame level) }

/-- The build that an event makes possible, if any (R166). -/
def State.build (s : State) : State :=
  if s.buildAllowed then
    match s.readyLevels with
    | [] => s
    | first :: others => s.buildLevel (lowestRank s.tables.notice.ranks first others)
  else s

/-- The tick at which the running spacing timer expires (R168, R169). -/
def State.spacingExpiry (s : State) : Option Nat :=
  s.notices.spacingStart.map (· + s.tables.notice.spacing * Config.ticksPerUs)

/-- The slot is emptied by a choice, and the spacing timer starts when the spacing is not 0 (R168). -/
def State.takeNotice (s : State) : State :=
  s.setNotices { s.notices with
    slot := none
    spacingStart := if s.tables.notice.spacing = 0 then none else some s.tick }

/-- The spacing timer stops (R169). -/
def State.stopSpacing (s : State) : State := s.setNotices { s.notices with spacingStart := none }

end Sys2Proof.Machine
end

