-- ==== Sys2Proof/Machine/Delivery.lean ====
section
/-! DEFINITION. Delivery lines, transmit side (chapter 8): what each kind of frame becomes on the wire, the output
arbiter's choice, and what follows an event: the build and the choices it makes possible. -/

namespace Sys2Proof.Machine

/-! ## What is sent (R133 to R135) -/

/-- The three fields of a stamp: seconds, ns, sub (R6, steps 4 to 6). -/
def stampSeconds (t256 : Nat) : Nat := (t256 / Config.stampsPerSecond) % 2 ^ 48
def stampNs (t256 : Nat) : Nat := (t256 % Config.stampsPerSecond) / 256
def stampSub (t256 : Nat) : Nat := t256 % 256

/-- The 24-byte stamp trailer of a delivery entry (R134, R173). -/
def DeliveryEntry.trailer (e : DeliveryEntry) : List Byte :=
  let channel := (e.listing.map (·.channel.val)).getD 0
  let s := (e.listing.map (·.s)).getD 0
  let n := (e.listing.map (·.n)).getD 0
  [0x4F, 0x54] ++ field 1 e.record.line.val ++ field 1 e.record.quality ++ [e.flags.byte] ++ field 1 channel ++
    field 2 e.gapCount ++ field 6 (stampSeconds e.record.stamp) ++ field 4 (stampNs e.record.stamp) ++
    field 1 (stampSub e.record.stamp) ++ field 1 (min n 255) ++ natBytes 4 s

/-- A feed frame as sent (R133). -/
def DeliveryEntry.wire (e : DeliveryEntry) : List Byte := withFcs (withoutFcs e.record.bytes ++ e.trailer)

/-- A reply or a notice frame as sent (R135). -/
def builtWire (frame : List Byte) : List Byte := withFcs (padFrame frame)

/-! ## The output arbiter (R136 to R139) -/

/-- The group order of a code (R137). -/
def groupOrder (code : Fin 6) : List TransmitKind :=
  match code with
  | 0 => [.feed, .reply, .notice]
  | 1 => [.feed, .notice, .reply]
  | 2 => [.reply, .feed, .notice]
  | 3 => [.reply, .notice, .feed]
  | 4 => [.notice, .feed, .reply]
  | 5 => [.notice, .reply, .feed]

/-- A pair of the FEED group of a line whose delivery queue holds a frame. -/
def State.feedReady (s : State) (d : DlineId) (p : PairId) : Bool :=
  s.tables.profile[p].deliveryLine == d && !s.pairs[p].queue.isEmpty

/-- The order in which the FEED group is searched (R138). -/
def State.feedOrder (s : State) (d : DlineId) : List PairId :=
  if s.tables.delivery[d].rotating then
    let last := s.deliveries[d].lastPairServed
    [last + 1, last + 2, last + 3, last]
  else [0, 1, 2, 3]

/-- The pair the FEED group would serve (R138). -/
def State.feedPair (s : State) (d : DlineId) : Option PairId := (s.feedOrder d).find? (s.feedReady d)

/-- A group of a line holds a frame (section 8.3). -/
def State.groupHolds (s : State) (d : DlineId) : TransmitKind → Bool
  | .feed => (s.feedPair d).isSome
  | .reply => !s.deliveries[d].replies.isEmpty
  | .notice => s.tables.notice.noticeLine == d && s.notices.slot.isSome

/-- The group a choice picks: the first in group order that holds a frame (R136). -/
def State.chosenGroup (s : State) (d : DlineId) : Option TransmitKind :=
  (groupOrder s.tables.delivery[d].groupOrder).find? (s.groupHolds d)

/-- Start the send, or the discard on a line that is DOWN (R132). -/
def State.transmit (s : State) (d : DlineId) (kind : TransmitKind) (bytes : List Byte) : State :=
  let started : Option Int := if s.clockRuns then some (s.tick : Int) else none
  let t : Transmission := ⟨kind, bytes, started, true⟩
  s.setDelivery d { s.deliveries[d] with
    transmitter := if s.deliveries[d].link = .up then .sending t else .discarding t }

/-- The FEED group is served: the head of the chosen pair's queue leaves (R138, R139). -/
def State.serveFeed (s : State) (d : DlineId) : State :=
  match s.feedPair d with
  | none => s
  | some p =>
    match s.pairs[p].queue with
    | [] => s
    | e :: rest =>
      let s := s.setPair p { s.pairs[p] with queue := rest }
      let s := s.setDelivery d { s.deliveries[d] with lastPairServed := p }
      s.transmit d .feed e.wire

/-- The REPLY group is served: the head of the reply queue leaves, and starts RESTART when it answers one (R139, R160). -/
def State.serveReply (s : State) (d : DlineId) : State :=
  match s.deliveries[d].replies with
  | [] => s
  | r :: rest =>
    let s := s.setDelivery d { s.deliveries[d] with replies := rest }
    let s := s.transmit d .reply (builtWire r.frame)
    if r.startsRestart then s.startRestart else s

/-- The NOTICE group is served: the slot is emptied (R139, R168). -/
def State.serveNotice (s : State) (d : DlineId) : State :=
  match s.notices.slot with
  | none => s
  | some frame => s.takeNotice.transmit d .notice (builtWire frame)

/-- A choice of the output arbiter, when the transmitter is idle and a group holds a frame (R136). -/
def State.choose (s : State) (d : DlineId) : State :=
  match s.deliveries[d].transmitter with
  | .idle =>
    match s.chosenGroup d with
    | none => s
    | some .feed => s.serveFeed d
    | some .reply => s.serveReply d
    | some .notice => s.serveNotice d
  | _ => s

/-- What an event makes possible elsewhere in the part, within that event: a build (R166), the choices of idle lines
(R136), and the build that a choice emptying the slot allows with a spacing of 0 (R168). The order is a DESIGN CHOICE
(log 6). -/
def State.settle (s : State) : State := ((s.build.choose 0).choose 1).build

/-! ## Completion of a send or discard (R132) -/

/-- Wire time in whole ticks of a frame of these bytes: floor of (L + 20) × 0.32 (R132; DESIGN CHOICE,
log 10). -/
def wireTicks (bytes : List Byte) : Nat := (bytes.length + 20) * 8 / 25

/-- The frame's wire time has passed. -/
def State.wireTimePassed (s : State) (t : Transmission) : Bool :=
  match t.started with
  | none => true
  | some start => decide (start + (wireTicks t.bytes : Int) ≤ (s.tick : Int))

/-- The counter a completed send increases (R132). -/
def DeliveryCounters.countSent (c : DeliveryCounters) : TransmitKind → DeliveryCounters
  | .feed => { c with feedSent := satInc c.feedSent }
  | .reply => { c with repliesSent := satInc c.repliesSent }
  | .notice => { c with noticesSent := satInc c.noticesSent }

def DeliveryCounters.countDiscarded (c : DeliveryCounters) : DeliveryCounters :=
  { c with discarded := satInc c.discarded }

/-- The transmitter becomes idle and the counter of its row increases, unless a RESTART came between (R132, R145). -/
def State.completeTransmit (s : State) (d : DlineId) : State :=
  let line := s.deliveries[d]
  match line.transmitter with
  | .idle => s
  | .sending t =>
    if s.wireTimePassed t then
      (s.setDelivery d { line with
        transmitter := .idle
        counters := if t.counted then line.counters.countSent t.kind else line.counters }).settle
    else s
  | .discarding t =>
    if s.wireTimePassed t then
      (s.setDelivery d { line with
        transmitter := .idle
        counters := if t.counted then line.counters.countDiscarded else line.counters }).settle
    else s

/-- A reported link state of a delivery line (R131, R141): a frame in reception ends at a change to DOWN (R142). A cut
send counts as discarded even after a RESTART (DEDUCED, log 11). -/
def State.deliveryLink (s : State) (d : DlineId) (link : LinkState) : State :=
  let line := s.deliveries[d]
  if line.link = link then s
  else
    let line := { line with link := link }
    let line :=
      match link with
      | .up => line
      | .down =>
        match line.transmitter with
        | .sending _ => { line with reception := none, transmitter := .idle, counters := line.counters.countDiscarded }
        | _ => { line with reception := none }
    ((s.setDelivery d line).raise (sourceDeliveryLink d)).settle

/-! ## The rows of delivery lines, transmit side -/

/-- TRANSMIT_COMPLETION (R132). -/
def execTransmitCompletion (d : DlineId) (s : State) : Host.Outcome State Fault Refusal :=
  .next (s.whenReleased (·.completeTransmit d))

/-- DELIVERY_LINK_CHANGE (R131). -/
def execDeliveryLinkChange (d : DlineId) (link : LinkState) (s : State) : Host.Outcome State Fault Refusal :=
  .next (s.whenReleased (·.deliveryLink d link))

/-- SPACING_TIMER_EXPIRY (R169). -/
def execSpacingTimerExpiry (s : State) : Host.Outcome State Fault Refusal :=
  .next (s.whenRunning fun s =>
    match s.spacingExpiry with
    | some t => if t ≤ s.tick then s.stopSpacing.settle else s
    | none => s)

end Sys2Proof.Machine
end

