-- ==== Sys2Proof/Machine/TimeBase.lean ====
section
/-! DEFINITION. The time base (chapter 1): conversion of fine counts, the anchor store, its states, the discipline
computation and holdover. -/

namespace Sys2Proof.Machine

/-! ## Conversion (R5, R6) -/

/-- The time of a fine count by one record: A + floor((X − F_a) × W / 16) (R5). -/
def AnchorRecord.timeOf (r : AnchorRecord) (x : Nat) : Int := r.time + ((x : Int) - r.effective) * r.rate / 16

/-- The record a fine count is converted with (R5). -/
def recordFor (previous current : AnchorRecord) (x : Nat) : AnchorRecord :=
  if current.effective ≤ x then current else previous

/-- The full-precision time of a fine count (R5). -/
def convert (previous current : AnchorRecord) (x : Nat) : Int := (recordFor previous current x).timeOf x

/-- T256 of a time, less a line delay, clamped to 0 (R6, steps 1 to 3). -/
def stampOf (t : Int) (delay : Nat) : Nat := (t / Config.unitsPerStamp - delay).toNat

/-- T256 of a fine count with the anchor store as it stands (R5, R6). -/
def TimeBase.stamp (t : TimeBase) (x delay : Nat) : Nat := stampOf (convert t.previous t.current x) delay

/-! ## States and installs (R4, R8) -/

/-- Place a new record in the store (R4). -/
def TimeBase.install (t : TimeBase) (r : AnchorRecord) : TimeBase := { t with previous := t.current, current := r }

/-- The lock run, outlier run and holdover-expired condition after a change to another state (R8). -/
def TimeBase.enter (t : TimeBase) (target : TimeBaseState) : TimeBase :=
  { t with
    state := target
    lockRun := if t.state = .acquiring ∧ target = .locked then t.lockRun else 0
    outlierRun := 0
    holdoverExpired := if t.state = .holdover then false else t.holdoverExpired }

/-- Move the time base to a state: nothing when it is already there, TB_STATE otherwise (R8). -/
def State.enterTb (s : State) (target : TimeBaseState) : State :=
  if s.timeBase.state = target then s else (s.setTimeBase (s.timeBase.enter target)).raise sourceTbState

/-- Abandon the discipline computation in flight (R12). -/
def State.abandonDiscipline (s : State) : State := s.setTimeBase { s.timeBase with discipline := none }

/-- The time base at a selection while nothing was selected (R9). -/
def State.tbSelected (s : State) : State := s.enterTb .acquiring

/-- The time base when no reference is selected any more (R10). -/
def State.tbUnselected (s : State) : State :=
  match s.timeBase.state with
  | .locked => (s.setTimeBase { s.timeBase with holdoverEntryTick := s.tick }).enterTb .holdover
  | .acquiring => s.enterTb .free
  | _ => s

/-! ## Arithmetic of a discipline computation (R13 to R17) -/

/-- The clamp of rate words (R17). -/
def clampRate (w : Int) : Int :=
  max (Config.nominalRate - Config.rateSpan) (min w (Config.nominalRate + Config.rateSpan))

/-- The nearest integer to a / b for b above 0, a quotient exactly halfway rounded upward (R13). -/
def roundHalfUp (a b : Int) : Int := (2 * a + b) / (2 * b)

/-- The nearest integer to a / b for b above 0, a quotient exactly halfway rounded away from zero (R15). -/
def roundHalfAway (a b : Int) : Int := if 0 ≤ a then (2 * a + b) / (2 * b) else -((2 * (-a) + b) / (2 * b))

/-- M, in fine counts (R13). -/
def Discipline.interval (d : Discipline) : Int := (d.capture : Int) - d.previousCapture

/-- P (R13). -/
def Discipline.prediction (d : Discipline) : Int := convert d.previous d.current d.capture

/-- S + D_ref: the time the reference says the pulse marks. -/
def Discipline.referenceTime (d : Discipline) : Int := d.labelTime + d.pulseDelay

/-- E (R13). -/
def Discipline.error (d : Discipline) : Int := d.prediction - d.referenceTime

/-- W_f (R13). -/
def Discipline.frequency (d : Discipline) : Int := roundHalfUp (Config.unitsPerSecond * 16) d.interval

/-- ΔW (R15). -/
def Discipline.phaseTerm (d : Discipline) : Int := roundHalfAway (d.error * 16) (d.interval * 2 ^ d.slewGain)

/-- F_e = X_k + 65,536 (R15, R16). -/
def Discipline.effectivePoint (d : Discipline) : Nat := d.capture + Config.effectiveLead

/-- The record of the slew case (R15). -/
def Discipline.slewRecord (d : Discipline) : AnchorRecord where
  effective := d.effectivePoint
  time := convert d.previous d.current d.effectivePoint
  rate := clampRate (d.frequency - d.phaseTerm)

/-- The record of the step case (R16). -/
def Discipline.stepRecord (d : Discipline) : AnchorRecord where
  effective := d.effectivePoint
  time := d.referenceTime + 4096 * clampRate d.frequency
  rate := clampRate d.frequency

/-- |E| is at or below the step threshold: a slew (R14). -/
def Discipline.slews (d : Discipline) : Bool := d.error.natAbs ≤ d.stepThreshold * 2 ^ 32

/-- |E| is at or below the lock limit (R18). -/
def Discipline.withinLockLimit (d : Discipline) : Bool := d.error.natAbs ≤ d.lockLimit * 2 ^ 32

/-! ## Completion (R14, R18, R19) -/

/-- The completed slew in ACQUIRING (R19). -/
def State.slewAcquiring (s : State) (d : Discipline) : State :=
  let run := if d.withinLockLimit then s.timeBase.lockRun + 1 else 0
  let t := { (s.timeBase.install d.slewRecord) with
    discipline := none, lastError := d.error, outlierRun := 0, lockRun := run }
  let s := s.setTimeBase t
  if d.withinLockLimit ∧ d.lockCount ≤ run then s.enterTb .locked else s

/-- The completed slew in LOCKED (R19). -/
def State.slewLocked (s : State) (d : Discipline) : State :=
  s.setTimeBase { (s.timeBase.install d.slewRecord) with
    discipline := none, lastError := d.error, outlierRun := 0 }

/-- The completed step (R16, R19). -/
def State.stepTime (s : State) (d : Discipline) : State :=
  (s.setTimeBase { (s.timeBase.install d.stepRecord) with
    discipline := none, lastError := d.error, lockRun := 0, stepCount := satInc s.timeBase.stepCount }).raise sourceStep

/-- An outlier that is not the third in a row (R18). -/
def State.outlier (s : State) (d : Discipline) : State :=
  s.setTimeBase { s.timeBase with
    discipline := none, lastError := d.error, outlierRun := s.timeBase.outlierRun + 1 }

/-- All the results of a completed computation together (R14, R19). -/
def State.applyDiscipline (s : State) (d : Discipline) : State :=
  match s.timeBase.state with
  | .acquiring => if d.slews then s.slewAcquiring d else s.stepTime d
  | .locked =>
    if d.slews then s.slewLocked d
    else if s.timeBase.outlierRun < 2 then s.outlier d
    else (s.stepTime d).enterTb .acquiring
  | _ => s.abandonDiscipline

/-- A computation completes after the tick of its pulse: it is an operation, which takes time (R12, section 1.5;
DEDUCED, log 7). -/
def State.disciplineDue (s : State) (d : Discipline) : Bool := d.capture / 16 < s.tick

/-! ## Holdover (R20) -/

/-- The tick of the holdover expiry, while one is to come (R20). -/
def State.holdoverExpiryTick (s : State) : Option Nat :=
  let limit := s.tables.timebase.holdoverLimit
  if s.timeBase.state = .holdover ∧ limit ≠ 0 ∧ s.timeBase.holdoverExpired = false then
    some (s.timeBase.holdoverEntryTick + limit * Config.ticksPerSecond)
  else none

/-- The holdover expiry, when its tick has been reached (R20). -/
def State.expireHoldover (s : State) : State :=
  match s.holdoverExpiryTick with
  | some t =>
    if t ≤ s.tick then (s.setTimeBase { s.timeBase with holdoverExpired := true }).raise sourceHoldoverExpired else s
  | none => s

/-- Holdover age in seconds; 0 in every state but HOLDOVER (R7, R20). -/
def State.holdoverAge (s : State) : Nat :=
  if s.timeBase.state = .holdover then (s.tick - s.timeBase.holdoverEntryTick) / Config.ticksPerSecond else 0

/-! ## SET_TIME and TRIM_RATE (R21, R22) -/

/-- SET_TIME and TRIM_RATE are refused with BUSY in ACQUIRING and LOCKED. -/
def TimeBase.following (t : TimeBase) : Bool := t.state == .acquiring || t.state == .locked

/-- The record of SET_TIME (R21). -/
def State.setTimeRecord (s : State) (seconds ns : Nat) : AnchorRecord where
  effective := s.now + Config.effectiveLead
  time := ((seconds * 10 ^ 9 + ns : Nat) : Int) * Config.unitsPerNs
  rate := s.timeBase.current.rate

/-- The record of TRIM_RATE (R22). -/
def State.trimRecord (s : State) (offset : Int) : AnchorRecord where
  effective := s.now + Config.effectiveLead
  time := convert s.timeBase.previous s.timeBase.current (s.now + Config.effectiveLead)
  rate := clampRate (Config.nominalRate + offset)

/-- Install a record set by management; the state becomes FREE (R21, R22). -/
def State.installManaged (s : State) (r : AnchorRecord) : State :=
  (s.setTimeBase (s.timeBase.install r)).enterTb .free

/-! ## The rows of the time base -/

/-- DISCIPLINE_COMPLETION (R19). -/
def execDisciplineCompletion (s : State) : Host.Outcome State Fault Refusal :=
  .next (s.whenRunning fun s =>
    match s.timeBase.discipline with
    | some d => if s.disciplineDue d then (s.applyDiscipline d).settle else s
    | none => s)

/-- HOLDOVER_EXPIRY (R20). -/
def execHoldoverExpiry (s : State) : Host.Outcome State Fault Refusal :=
  .next (s.whenRunning fun s =>
    match s.holdoverExpiryTick with
    | some t => if t ≤ s.tick then s.expireHoldover.settle else s
    | none => s)

/-- TICK (R1): the tick count increases by one; the strap pins have the levels of this tick. -/
def execTick (straps : Straps) (s : State) : Host.Outcome State Fault Refusal :=
  .next (s.whenRunning fun s => { s with tick := s.tick + 1, strapPins := straps })

/-! ## The rows of the reset pin and the clock (R178) -/

/-- POWER_ON_RESET: work in flight ends, sends are cut, and every block holds its reset values. The strap latch keeps
what it has until the release (R146; DEDUCED, log 14). -/
def execPowerOnReset (s : State) : Host.Outcome State Fault Refusal :=
  .next (s.resetBlocks .resetHeld s.strapPins s.strapLatch)

/-- POWER_ON_RESET_RELEASE: the straps are latched and every block takes its reset values. -/
def execPowerOnResetRelease (straps : Straps) (s : State) : Host.Outcome State Fault Refusal :=
  .next (if s.clock = .resetHeld then s.resetBlocks .awaitingLock straps straps else s)

/-- STAMPING_CLOCK_LOCK: the tick count starts from 0, and captures and timers begin. -/
def execStampingClockLock (s : State) : Host.Outcome State Fault Refusal :=
  .next (if s.clock = .awaitingLock then { s with clock := .running, tick := 0 } else s)

end Sys2Proof.Machine
end

