-- ==== Sys2Proof/Machine/FeedLines.lean ====
section
/-! DEFINITION. Feed line receivers (chapter 3): link changes, frame starts and completions, the line buffer and the
silence timer. -/

namespace Sys2Proof.Machine

/-! ## Silence (R54, R55) -/

/-- Start or restart the silence timer when the link is UP, the mode is MONITOR or LIVE and the limit is not 0 (R54). -/
def FeedLine.startSilence (f : FeedLine) (limit tick : Nat) : FeedLine :=
  if f.link = .up ∧ f.mode ≠ .off ∧ limit ≠ 0 then { f with silenceStart := some tick, silent := false }
  else { f with silent := false }

/-- Stop the silence timer and clear the silent condition (R54). -/
def FeedLine.stopSilence (f : FeedLine) : FeedLine := { f with silenceStart := none, silent := false }

/-- The tick at which a running silence timer expires (R54). -/
def State.silenceExpiry (s : State) (l : LineId) : Option Nat :=
  s.lines[l].silenceStart.map (· + s.tables.line[l].silenceLimit * Config.ticksPerMs)

/-- The silence timer expiry, when its tick has been reached (R55). -/
def State.expireSilence (s : State) (l : LineId) : State :=
  match s.silenceExpiry l with
  | some t =>
    if t ≤ s.tick then
      (s.setLine l { s.lines[l] with silenceStart := none, silent := true }).raise (sourceSilent l)
    else s
  | none => s

/-! ## Link changes (R41, R47) -/

/-- A frame in reception is ended as truncated (R47). -/
def FeedLine.truncate (f : FeedLine) : FeedLine :=
  match f.reception with
  | none => f
  | some _ => { f with reception := none, counters := { f.counters with truncated := satInc f.counters.truncated } }

/-- A line after a change of link state (R41). -/
def FeedLine.changeLink (f : FeedLine) (link : LinkState) (limit tick : Nat) : FeedLine :=
  let f := { f with link := link, counters := { f.counters with linkFlaps := satInc f.counters.linkFlaps } }
  if f.mode = .off then f
  else
    match link with
    | .down => f.truncate.stopSilence
    | .up => f.startSilence limit tick

/-- A reported link state of a feed line; a report that repeats the present state does nothing (R41). -/
def State.feedLink (s : State) (l : LineId) (link : LinkState) : State :=
  if s.lines[l].link = link then s
  else
    ((s.setLine l (s.lines[l].changeLink link s.tables.line[l].silenceLimit s.tick)).raise (sourceLinkChange l)).settle

/-! ## Frames (R45 to R52) -/

/-- A frame start is captured in MONITOR or LIVE with the link UP; at most one frame is in reception (R45;
DEDUCED, log 18). -/
def FeedLine.startFrame (f : FeedLine) (capture : Nat) : FeedLine :=
  if f.mode ≠ .off ∧ f.link = .up ∧ f.reception = none then { f with reception := some ⟨capture, []⟩ } else f

/-- What the checks of R48 find. -/
inductive FrameCheck where
  | runt
  | oversize
  | fcsError
  | good
  deriving DecidableEq, Repr

/-- The checks of a completed frame, in their order (R48). -/
def checkFrame (bytes : List Byte) (receiveError : Bool) : FrameCheck :=
  if bytes.length < 64 then .runt
  else if 2048 < bytes.length then .oversize
  else if receiveError || !fcsMatches bytes then .fcsError
  else .good

/-- The count a dropped frame increases (R48). -/
def LineCounters.countBad (c : LineCounters) : FrameCheck → LineCounters
  | .runt => { c with runts := satInc c.runts }
  | .oversize => { c with oversize := satInc c.oversize }
  | .fcsError => { c with fcsErrors := satInc c.fcsErrors }
  | .good => c

/-- The conversion event of a good frame at its line: good frames, last arrival stamp and silence timer (R49, R54). -/
def FeedLine.arrive (f : FeedLine) (a : Arrival) (limit tick : Nat) : FeedLine :=
  ({ f with
    reception := none
    lastArrival := a
    counters := { f.counters with goodFrames := satInc f.counters.goodFrames } }).startSilence limit tick

/-- The pair's two line buffers are empty. -/
def State.buffersEmpty (s : State) (p : PairId) : Bool :=
  s.lines[sideA p].buffer.isEmpty && s.lines[sideB p].buffer.isEmpty

/-- A pair whose empty buffers get a record: its next taking is at least one tick later (R73). -/
def State.noteFirstRecord (s : State) (p : PairId) : State :=
  if s.buffersEmpty p then s.setPair p { s.pairs[p] with serviceTick := some s.tick } else s

/-- Append a record to the tail of its line buffer, or drop it when the buffer is full (R51, R52). -/
def State.appendRecord (s : State) (r : FrameRecord) : State :=
  let f := s.lines[r.line]
  if f.buffer.length < Config.lineBufferSize then
    (s.noteFirstRecord (pairOf r.line)).setLine r.line { f with buffer := f.buffer ++ [r] }
  else
    (s.setLine r.line { f with counters := { f.counters with overflow := satInc f.counters.overflow } }).raise
      (sourceOverflow r.line)

/-- A good frame: conversion, then discarded in MONITOR and appended in LIVE (R49 to R51). -/
def State.goodFrame (s : State) (l : LineId) (capture : Nat) (bytes : List Byte) : State :=
  let entry := s.tables.line[l]
  let stamp := s.timeBase.stamp capture entry.lineDelay
  let quality := s.timeBase.quality
  let s := s.setLine l (s.lines[l].arrive ⟨stamp, quality⟩ entry.silenceLimit s.tick)
  if s.lines[l].mode = .live then s.appendRecord ⟨bytes, l, capture, stamp, quality⟩ else s

/-- The completion of the frame in reception (R48). -/
def State.completeFrame (s : State) (l : LineId) (bytes : List Byte) (receiveError : Bool) : State :=
  let f := s.lines[l]
  match f.reception with
  | none => s
  | some r =>
    if f.mode = .off then s
    else
      let all := r.bytes ++ bytes
      match checkFrame all receiveError with
      | .good => s.goodFrame l r.capture all
      | bad => s.setLine l { f with reception := none, counters := f.counters.countBad bad }

/-! ## The rows of feed lines -/

/-- FEED_LINK_CHANGE (R41). -/
def execFeedLinkChange (l : LineId) (link : LinkState) (s : State) : Host.Outcome State Fault Refusal :=
  .next (s.whenReleased (·.feedLink l link))

/-- START_OF_FRAME (R45). -/
def execStartOfFrame (l : LineId) (phase : Phase) (s : State) : Host.Outcome State Fault Refusal :=
  .next (s.whenRunning fun s => s.setLine l (s.lines[l].startFrame (s.now + phase.val)))

/-- FRAME_COMPLETION (R48). -/
def execFrameCompletion (l : LineId) (bytes : List Byte) (receiveError : Bool) (s : State) :
    Host.Outcome State Fault Refusal :=
  .next (s.whenReleased fun s => (s.completeFrame l bytes receiveError).settle)

/-- SILENCE_TIMER_EXPIRY (R55). -/
def execSilenceTimerExpiry (l : LineId) (s : State) : Host.Outcome State Fault Refusal :=
  .next (s.whenRunning fun s =>
    match s.silenceExpiry l with
    | some t => if t ≤ s.tick then (s.expireSilence l).settle else s
    | none => s)

end Sys2Proof.Machine
end

