-- ==== Sys2Proof/Machine/Classifier.lean ====
section
/-! DEFINITION. The classifier of a pair (chapter 4): decodability, key search, sequence number and message count. It
keeps no state (R72). -/

namespace Sys2Proof.Machine

/-- A field of k bytes at offset o lies within a frame of length L without its FCS: o + k ≤ L − 4 (R62). -/
def fieldWithin (length o k : Nat) : Bool := decide (o + k + 4 ≤ length)

/-- Every field the profile names lies within the frame (R62). -/
def ProfileEntry.decodes (p : ProfileEntry) (bytes : List Byte) : Bool :=
  fieldWithin bytes.length p.keyOffset1 4 && fieldWithin bytes.length p.keyOffset2 2 &&
    fieldWithin bytes.length p.sequenceOffset p.sequenceWidth &&
    (p.countWidth == 0 || fieldWithin bytes.length p.countOffset p.countWidth)

/-- The six key bytes of a frame (R63). -/
def ProfileEntry.keyOf (p : ProfileEntry) (bytes : List Byte) : ChannelKey :=
  BitVec.ofNat 48 (bigEndian (slice bytes p.keyOffset1 4 ++ slice bytes p.keyOffset2 2))

/-- An unsigned field in the profile's byte order (R64). -/
def ProfileEntry.numOf (p : ProfileEntry) (bytes : List Byte) (o k : Nat) : Nat :=
  if p.littleEndian then Machine.littleEndian (slice bytes o k) else bigEndian (slice bytes o k)

/-- The sequence number of a frame (R64). -/
def ProfileEntry.sequenceOf (p : ProfileEntry) (bytes : List Byte) : Nat :=
  p.numOf bytes p.sequenceOffset p.sequenceWidth

/-- The message count of a frame (R64). -/
def ProfileEntry.countOf (p : ProfileEntry) (bytes : List Byte) : Nat :=
  if p.countWidth = 0 then 1 else p.numOf bytes p.countOffset p.countWidth

/-- An entry belongs to a pair when it is enabled and names it (R60). -/
def ChannelEntry.belongsTo (e : ChannelEntry) (p : PairId) : Bool := e.enabled && e.pair == p

/-- The channel of a pair that has this key, if any (R63). -/
def Tables.findChannel (t : Tables) (p : PairId) (key : ChannelKey) : Option ChannelId :=
  (List.finRange 256).find? fun c => t.channel[c].belongsTo p && t.channel[c].key == key

/-- The outcomes of classification (chapter 4). -/
inductive Classified where
  | listed (channel : ChannelId) (s n : Nat)
  | unlisted
  | undecodable
  deriving DecidableEq, Repr

/-- Classify the bytes of a record of a pair (R61). -/
def Tables.classify (t : Tables) (p : PairId) (bytes : List Byte) : Classified :=
  let profile := t.profile[p]
  if profile.decodes bytes then
    match t.findChannel p (profile.keyOf bytes) with
    | some c => .listed c (profile.sequenceOf bytes) (profile.countOf bytes)
    | none => .unlisted
  else .undecodable

end Sys2Proof.Machine
end

