-- ==== Sys2Proof/Machine/Arbiter.lean ====
section
/-! DEFINITION. The pair arbiters (chapters 5 to 7): taking records, the case table, heartbeats, delivery, the release
loop, the hold pool with its expiries, the twin window and the lag statistics. -/

namespace Sys2Proof.Machine

/-! ## Modular sequence arithmetic (R76) -/

/-- w, the width of a pair's sequence numbers in bits. -/
def State.width (s : State) (p : PairId) : Nat := 8 * s.tables.profile[p].sequenceWidth

/-- The offset of sequence number q from X: (q − X) mod 2^w, read signed (R76). -/
def offset (w q x : Nat) : Int :=
  let residue := ((q : Int) - x) % (2 ^ w : Int)
  if (2 ^ (w - 1) : Int) ≤ residue then residue - 2 ^ w else residue

/-- The end of a frame: (s + n) mod 2^w (R76). -/
def endOf (w s n : Nat) : Nat := (s + n) % 2 ^ w

/-- The expected next sequence X, absent in UNSEEN (R75). -/
def SequenceState.expected : SequenceState → Option Nat
  | .unseen => none
  | .inStep x => some x
  | .gapOpen x _ => some x

/-- X set to a new value; a channel leaves UNSEEN for IN_STEP by it (R75, R78, R87). -/
def SequenceState.withExpected (q : SequenceState) (x : Nat) : SequenceState :=
  match q with
  | .unseen => .inStep x
  | .inStep _ => .inStep x
  | .gapOpen _ expiry => .gapOpen x expiry

/-- The last held frame has left: IN_STEP with the timer stopped (R75, R92). -/
def SequenceState.close : SequenceState → SequenceState
  | .unseen => .unseen
  | .inStep x => .inStep x
  | .gapOpen x _ => .inStep x

def State.setSequence (s : State) (c : ChannelId) (q : SequenceState) : State :=
  s.setChannel c { s.channels[c] with sequence := q }

/-- Set X of a channel. -/
def State.setExpected (s : State) (c : ChannelId) (x : Nat) : State :=
  s.setSequence c (s.channels[c].sequence.withExpected x)

/-- X of a channel, 0 in UNSEEN. -/
def State.expectedOf (s : State) (c : ChannelId) : Nat := s.channels[c].sequence.expected.getD 0

/-! ## Delivery (R88 to R90) -/

def State.setCounters (s : State) (p : PairId) (c : PairCounters) : State :=
  s.setPair p { s.pairs[p] with counters := c }

/-- A pair arbiter to whose queue an entry is delivered when there is room: DROP_BEFORE is carried and cleared (R88,
R90). -/
def PairArbiter.append (a : PairArbiter) (e : DeliveryEntry) : PairArbiter :=
  { a with
    queue := a.queue ++ [{ e with flags := { e.flags with dropBefore := a.dropBefore } }]
    dropBefore := false
    counters := { a.counters with delivered := satInc a.counters.delivered } }

/-- A pair arbiter at a drop (R90). -/
def PairArbiter.drop (a : PairArbiter) : PairArbiter :=
  { a with dropBefore := true, counters := { a.counters with deliveryDrops := satInc a.counters.deliveryDrops } }

/-- Deliver an entry to the pair's delivery queue, or drop it at a full queue (R88, R90). -/
def State.deliver (s : State) (p : PairId) (e : DeliveryEntry) : State :=
  if s.pairs[p].queue.length < Config.deliveryQueueSize then s.setPair p (s.pairs[p].append e)
  else (s.setPair p s.pairs[p].drop).raise (sourceDeliveryDrop p)

/-- The delivery entry of a listed frame (R89). -/
def ListedFrame.entry (f : ListedFrame) (gapCount : Nat) (flags : DeliveryFlags) : DeliveryEntry :=
  ⟨f.record, some ⟨f.channel, f.s, f.n⟩, gapCount, flags⟩

/-- A gap size as a gap count, saturating at 65,535. -/
def gapCountOf (gap : Nat) : Nat := min gap 65535

/-- Account a gap given up: lost gaps and lost messages of the channel and the pair, and GAP_LOST (R84, R104). -/
def State.accountGap (s : State) (p : PairId) (c : ChannelId) (gap : Nat) : State :=
  let ch := s.channels[c]
  let k := s.pairs[p].counters
  ((s.setChannel c { ch with lostGaps := satInc ch.lostGaps, lostMessages := satAdd ch.lostMessages gap }).setCounters p
    { k with lostGaps := satInc k.lostGaps, lostMessages := satAdd k.lostMessages gap }).raise (sourceGapLost p)

/-! ## Hold pool (R98 to R100) -/

/-- The lowest held frame of a channel: the head of its list (R99). -/
def lowestHeld (pool : List ListedFrame) (c : ChannelId) : Option ListedFrame := pool.find? (·.channel == c)

/-- The pool without the lowest held frame of a channel. -/
def removeLowest (pool : List ListedFrame) (c : ChannelId) : List ListedFrame := pool.eraseP (·.channel == c)

/-- Place a frame before the first held frame of its channel whose start offset is greater, or at the tail (R100). -/
def insertHeld (w x : Nat) (f : ListedFrame) : List ListedFrame → List ListedFrame
  | [] => [f]
  | g :: rest =>
    if g.channel = f.channel ∧ offset w f.s x < offset w g.s x then f :: g :: rest else g :: insertHeld w x f rest

def State.setPool (s : State) (p : PairId) (pool : List ListedFrame) : State :=
  s.setPair p { s.pairs[p] with pool := pool }

/-! ## Release loop (R92) -/

/-- A superseded frame leaves the pool (R92). -/
def State.supersede (s : State) (p : PairId) (c : ChannelId) : State :=
  let a := s.pairs[p]
  s.setPair p { a with
    pool := removeLowest a.pool c
    counters := { a.counters with superseded := satInc a.counters.superseded } }

/-- A held frame that X has reached leaves the pool for the delivery queue, and X advances to its end (R92). -/
def State.releaseFrame (s : State) (p : PairId) (f : ListedFrame) (start : Int) : State :=
  let w := s.width p
  ((s.setPool p (removeLowest s.pairs[p].pool f.channel)).deliver p (f.entry 0 (.ofRelease start))).setExpected f.channel
    (endOf w f.s f.n)

/-- The release loop of a channel (R92); each turn but the last takes a frame out of the pool, which bounds the turns. -/
def State.releaseLoop : Nat → State → PairId → ChannelId → State
  | 0, s, _, _ => s
  | turns + 1, s, p, c =>
    match lowestHeld s.pairs[p].pool c with
    | none => s.setSequence c s.channels[c].sequence.close
    | some f =>
      let start := offset (s.width p) f.s (s.expectedOf c)
      if start + (f.n : Int) ≤ 0 then State.releaseLoop turns (s.supersede p c) p c
      else if start ≤ 0 then State.releaseLoop turns (s.releaseFrame p f start) p c
      else s

/-- The release loop with turns for every frame of the pool and the closing turn. -/
def State.release (s : State) (p : PairId) (c : ChannelId) : State :=
  s.releaseLoop (s.pairs[p].pool.length + 1) p c

/-! ## Expiry (R103 to R105, R110, R111, R113, R115) -/

/-- One expiry step: the lowest held frame is delivered with RELEASED and GAP_BEFORE, its gap is accounted, X advances
to its end and the release loop runs; the timer is not restarted (R103, steps 1 to 5). -/
def State.expiryStep (s : State) (p : PairId) (c : ChannelId) : State :=
  match lowestHeld s.pairs[p].pool c with
  | none => s
  | some f =>
    let w := s.width p
    let gap := (offset w f.s (s.expectedOf c)).toNat
    let s := s.setPool p (removeLowest s.pairs[p].pool c)
    let s := s.deliver p (f.entry (gapCountOf gap) .ofExpiry)
    let s := s.accountGap p c gap
    (s.setExpected c (endOf w f.s f.n)).release p c

/-- Start or restart the gap timer of a channel for a full gap wait from now (R101, R105). -/
def State.startGapTimer (s : State) (c : ChannelId) : State :=
  s.setChannel c { s.channels[c] with
    gapOpenTick := s.tick
    sequence := .gapOpen (s.expectedOf c) (s.tick + s.tables.channel[c].gapWait * Config.ticksPerUs) }

/-- The expiry of a channel's gap timer (R103, R105). -/
def State.expireGap (s : State) (p : PairId) (c : ChannelId) : State :=
  let s := s.expiryStep p c
  if (lowestHeld s.pairs[p].pool c).isSome then s.startGapTimer c else s

/-- Expiry steps until the channel holds no frame (R113, R115); each takes a frame out of the pool. -/
def State.drainLoop : Nat → State → PairId → ChannelId → State
  | 0, s, _, _ => s
  | turns + 1, s, p, c =>
    if (lowestHeld s.pairs[p].pool c).isSome then State.drainLoop turns (s.expiryStep p c) p c else s

/-- Every held frame of a channel is released by expiry steps: the reset chain, and the release on leaving LIVE. -/
def State.drain (s : State) (p : PairId) (c : ChannelId) : State := s.drainLoop s.pairs[p].pool.length p c

/-- The older of two waits: the smaller gap-open tick, and between equal ticks the lower channel number (R110, R113). -/
def State.olderWait (s : State) (a b : ChannelId) : ChannelId :=
  if s.channels[b].gapOpenTick < s.channels[a].gapOpenTick ∨
      (s.channels[b].gapOpenTick = s.channels[a].gapOpenTick ∧ b < a) then b else a

/-- The channel of a pair whose wait began first, if the pair holds a frame (R110, R113). -/
def State.oldestWait (s : State) (p : PairId) : Option ChannelId :=
  match s.pairs[p].pool with
  | [] => none
  | f :: rest => some (rest.foldl (fun best g => s.olderWait best g.channel) f.channel)

/-- The forced expiry of the oldest wait of a pair (R110, R111). -/
def State.forceExpiry (s : State) (p : PairId) : State :=
  match s.oldestWait p with
  | none => s
  | some c =>
    let s := s.expireGap p c
    let k := s.pairs[p].counters
    (s.setCounters p { k with forcedReleases := satInc k.forcedReleases }).raise (sourceForcedRelease p)

/-- Channels are released one after another, the oldest wait first, until the pool is empty (R113). -/
def State.releaseAllLoop : Nat → State → PairId → State
  | 0, s, _ => s
  | turns + 1, s, p =>
    match s.oldestWait p with
    | none => s
    | some c => State.releaseAllLoop turns (s.drain p c) p

/-- The release of a pair's hold pool when its last LIVE line leaves LIVE (R113). -/
def State.releaseAll (s : State) (p : PairId) : State := s.releaseAllLoop s.pairs[p].pool.length p

/-! ## Twin window and lag (R80, R119 to R127) -/

/-- A lag figure held within −2^63..2^63 − 1 (R124, R126). -/
def clampLag (v : Int) : Int := max (-(2 ^ 63)) (min v (2 ^ 63 - 1))

/-- A lag sample enters the statistics (R125, R126). -/
def LagStats.sample (g : LagStats) (v : Int) : LagStats :=
  { g with
    samples := satInc g.samples
    aFirst := if 0 < v then satInc g.aFirst else g.aFirst
    bFirst := if v < 0 then satInc g.bFirst else g.bFirst
    ties := if v = 0 then satInc g.ties else g.ties
    minLag := if g.samples = 0 then v else min v g.minLag
    maxLag := if g.samples = 0 then v else max v g.maxLag
    lagSum := clampLag (g.lagSum + v)
    lastLag := v }

/-- The lag sample of a twin: the stamp of the B-side copy minus the stamp of the A-side copy (R124). -/
def lagSample (p : PairId) (entry : TwinEntry) (r : FrameRecord) : Int :=
  if entry.line = sideA p then clampLag ((r.stamp : Int) - entry.stamp) else clampLag ((entry.stamp : Int) - r.stamp)

/-- An entry has this key (section 7.1). -/
def TwinEntry.hasKey (e : TwinEntry) (c : ChannelId) (sq : Nat) (kind : FrameKind) : Bool :=
  e.channel == c && e.s == sq && e.kind == kind

/-- A pair arbiter after a copy matched an entry from the other line (R80, R121). -/
def PairArbiter.twin (a : PairArbiter) (p : PairId) (e : TwinEntry) (r : FrameRecord) : PairArbiter :=
  { a with
    window := a.window.erase e
    lag := a.lag.sample (lagSample p e r)
    counters := { a.counters with twins := satInc a.counters.twins } }

/-- A pair arbiter after a copy found an entry of its own line (R80, R127). -/
def PairArbiter.sameLine (a : PairArbiter) : PairArbiter :=
  { a with
    lag := { a.lag with sameLineRepeats := satInc a.lag.sameLineRepeats }
    counters := { a.counters with sameLineRepeats := satInc a.counters.sameLineRepeats } }

/-- The twin lookup (R80): the pair after a twin or a same-line repeat; none when no entry is found. -/
def PairArbiter.twinLookup (a : PairArbiter) (p : PairId) (c : ChannelId) (sq : Nat) (kind : FrameKind)
    (r : FrameRecord) : Option PairArbiter :=
  match a.window.find? (·.hasKey c sq kind) with
  | none => none
  | some e => some (if e.line = r.line then a.sameLine else a.twin p e r)

/-- The window after an insertion, and whether an entry was replaced or evicted (R120). -/
def insertEntry (window : List TwinEntry) (e : TwinEntry) : List TwinEntry × Bool :=
  if window.any (·.hasKey e.channel e.s e.kind) then (window.eraseP (·.hasKey e.channel e.s e.kind) ++ [e], true)
  else if window.length < Config.twinWindowSize then (window ++ [e], false)
  else (window.drop 1 ++ [e], true)

/-- Insert the frame being handled into the twin window; a replaced or evicted entry is counted single-sided (R120,
R123). -/
def PairArbiter.insertTwin (a : PairArbiter) (e : TwinEntry) : PairArbiter :=
  { a with
    window := (insertEntry a.window e).1
    lag := if (insertEntry a.window e).2 then { a.lag with singleSided := satInc a.lag.singleSided } else a.lag }

/-- The twin window entry of a listed frame. -/
def ListedFrame.twinEntry (f : ListedFrame) (kind : FrameKind) : TwinEntry :=
  ⟨f.channel, f.s, kind, f.record.line, f.record.stamp⟩

def State.insertTwin (s : State) (p : PairId) (f : ListedFrame) (kind : FrameKind) : State :=
  s.setPair p (s.pairs[p].insertTwin (f.twinEntry kind))

/-! ## The case table (R77 to R85) -/

/-- Case 1: the channel is UNSEEN (R78). -/
def State.firstFrame (s : State) (p : PairId) (f : ListedFrame) : State :=
  ((s.deliver p (f.entry 0 .none)).setExpected f.channel (endOf (s.width p) f.s f.n)).insertTwin p f .data

/-- Case 2: a sequence reset (R79, R115, R122). -/
def State.sequenceReset (s : State) (p : PairId) (f : ListedFrame) : State :=
  let w := s.width p
  let s := s.drain p f.channel
  let s := s.deliver p (f.entry 0 .ofReset)
  let s := s.setExpected f.channel (endOf w f.s f.n)
  let s := s.setPair p { s.pairs[p] with window := s.pairs[p].window.filter (·.channel != f.channel) }
  (s.raise (sourceSeqReset p)).insertTwin p f .data

/-- Case 3 with no twin found: LATE (R81). -/
def State.countLate (s : State) (p : PairId) : State :=
  s.setCounters p { s.pairs[p].counters with late := satInc s.pairs[p].counters.late }

/-- Case 4: in step or overlapping (R82). -/
def State.inStepFrame (s : State) (p : PairId) (f : ListedFrame) (d : Int) : State :=
  (((s.deliver p (f.entry 0 (.ofInStep d))).setExpected f.channel (endOf (s.width p) f.s f.n)).insertTwin p f
    .data).release p f.channel

/-- A frame's range overlaps the range of a held frame of its channel (R76, R83). -/
def overlapsHeld (w x : Nat) (f : ListedFrame) (pool : List ListedFrame) : Bool :=
  pool.any fun h =>
    h.channel == f.channel && decide (offset w h.s x < offset w f.s x + (f.n : Int)) &&
      decide (offset w f.s x < offset w h.s x + (h.n : Int))

/-- Case 5, a conflict (R83). -/
def State.countConflict (s : State) (p : PairId) : State :=
  s.setCounters p { s.pairs[p].counters with conflicts := satInc s.pairs[p].counters.conflicts }

/-- Case 5 with gap wait 0: the gap is given up at once (R84). -/
def State.giveUpGap (s : State) (p : PairId) (f : ListedFrame) (gap : Nat) : State :=
  ((((s.deliver p (f.entry (gapCountOf gap) .ofGap)).accountGap p f.channel gap).setExpected f.channel
    (endOf (s.width p) f.s f.n)).insertTwin p f .data)

/-- Case 5 with a gap wait above 0 and room in the pool: the frame is held (R85, R100, R101). -/
def State.hold (s : State) (p : PairId) (f : ListedFrame) : State :=
  let x := s.expectedOf f.channel
  let s := s.setPool p (insertHeld (s.width p) x f s.pairs[p].pool)
  let s := s.insertTwin p f .data
  match s.channels[f.channel].sequence with
  | .gapOpen _ _ => s
  | _ => s.startGapTimer f.channel

/-- Case 5 (R83 to R85); none when the frame must be held and the pool is full. -/
def State.aheadFrame (s : State) (p : PairId) (f : ListedFrame) (d : Int) : Option State :=
  match s.pairs[p].twinLookup p f.channel f.s .data f.record with
  | some a => some (s.setPair p a)
  | none =>
    if overlapsHeld (s.width p) (s.expectedOf f.channel) f s.pairs[p].pool then some (s.countConflict p)
    else if s.tables.channel[f.channel].gapWait = 0 then some (s.giveUpGap p f d.toNat)
    else if s.pairs[p].pool.length < Config.holdPoolSize then some (s.hold p f)
    else none

/-- Case 3 (R81). -/
def State.oldFrame (s : State) (p : PairId) (f : ListedFrame) : State :=
  match s.pairs[p].twinLookup p f.channel f.s .data f.record with
  | some a => s.setPair p a
  | none => s.countLate p

/-- One examination of a data frame by the case table (R77); none when it must be held and the pool is full. -/
def State.examineData (s : State) (p : PairId) (f : ListedFrame) : Option State :=
  match s.channels[f.channel].sequence.expected with
  | none => some (s.firstFrame p f)
  | some x =>
    let d := offset (s.width p) f.s x
    let r := s.tables.channel[f.channel].resetExponent
    if r ≠ 0 ∧ d < -(2 ^ r : Int) then some (s.sequenceReset p f)
    else if d + (f.n : Int) ≤ 0 then some (s.oldFrame p f)
    else if d ≤ 0 then some (s.inStepFrame p f d)
    else s.aheadFrame p f d

/-- A data frame: examined, and examined again after a forced expiry when the pool was full (R85, R112). -/
def State.dataFrame (s : State) (p : PairId) (f : ListedFrame) : State :=
  match s.examineData p f with
  | some s' => s'
  | none =>
    let s := s.forceExpiry p
    (s.examineData p f).getD s

/-! ## Heartbeats (R86, R87) -/

/-- A heartbeat that the lookup did not find (R87). -/
def State.deliverBeat (s : State) (p : PairId) (f : ListedFrame) : State :=
  match s.channels[f.channel].sequence.expected with
  | none => ((s.deliver p (f.entry 0 (.ofBeat false))).setExpected f.channel f.s).insertTwin p f .beat
  | some x =>
    let d := offset (s.width p) f.s x
    (s.deliver p (f.entry (gapCountOf d.toNat) (.ofBeat (decide (0 < d))))).insertTwin p f .beat

/-- A heartbeat (R86). -/
def State.heartbeat (s : State) (p : PairId) (f : ListedFrame) : State :=
  match s.pairs[p].twinLookup p f.channel f.s .beat f.record with
  | some a => s.setPair p a
  | none => s.deliverBeat p f

/-! ## Unlisted frames (R62, R66) -/

def PairCounters.countUnlisted (k : PairCounters) (dropped decodable : Bool) : PairCounters :=
  { k with
    unlistedDelivered := if dropped then k.unlistedDelivered else satInc k.unlistedDelivered
    unlistedDropped := if dropped then satInc k.unlistedDropped else k.unlistedDropped
    undecodable := if decodable then k.undecodable else satInc k.undecodable }

/-- An unlisted or undecodable frame by the pair's unlisted policy (R66). -/
def State.unlistedFrame (s : State) (p : PairId) (r : FrameRecord) (decodable : Bool) : State :=
  let dropped := s.tables.profile[p].dropUnlisted
  let s := s.setCounters p (s.pairs[p].counters.countUnlisted dropped decodable)
  if dropped then s else s.deliver p ⟨r, none, 0, .ofUnlisted decodable⟩

/-! ## Taking (R73, R74) -/

/-- The line whose head record the arbiter takes, if a buffer of the pair holds one (R73). -/
def State.takingLine (s : State) (p : PairId) : Option LineId :=
  match s.lines[sideA p].buffer, s.lines[sideB p].buffer with
  | [], [] => none
  | _ :: _, [] => some (sideA p)
  | [], _ :: _ => some (sideB p)
  | a :: _, b :: _ => some (if a.capture ≤ b.capture then sideA p else sideB p)

/-- At least one tick has passed since the previous taking, or since the first record came (R73;
DESIGN CHOICE, log 2: the latest tick is not forced). -/
def State.takingDue (s : State) (p : PairId) : Bool :=
  match s.pairs[p].serviceTick with
  | none => true
  | some t => decide (t < s.tick)

/-- The record is removed from its buffer and counted as taken (R53, R74). -/
def State.removeHead (s : State) (p : PairId) (l : LineId) (rest : List FrameRecord) : State :=
  let a := s.pairs[p]
  (s.setLine l { s.lines[l] with buffer := rest }).setPair p { a with
    serviceTick := some s.tick
    counters := { a.counters with taken := satInc a.counters.taken } }

/-- A record that the arbiter has taken is classified and handled to the end (R61, R74). -/
def State.handleRecord (s : State) (p : PairId) (r : FrameRecord) : State :=
  match s.tables.classify p r.bytes with
  | .undecodable => s.unlistedFrame p r false
  | .unlisted => s.unlistedFrame p r true
  | .listed c sq n => if n = 0 then s.heartbeat p ⟨r, c, sq, n⟩ else s.dataFrame p ⟨r, c, sq, n⟩

/-- A taking event (R74). -/
def State.take (s : State) (p : PairId) : State :=
  match s.takingLine p with
  | none => s
  | some l =>
    match s.lines[l].buffer with
    | [] => s
    | r :: rest => ((s.removeHead p l rest).handleRecord p r).settle

/-- The pair and the expiry tick of a channel's running gap timer (R60, R101). -/
def State.gapExpiry (s : State) (c : ChannelId) : Option (PairId × Nat) :=
  match s.channels[c].sequence with
  | .gapOpen _ expiry => if s.tables.channel[c].enabled then some (s.tables.channel[c].pair, expiry) else none
  | _ => none

/-! ## Clearing (R95) -/

/-- A channel returned to UNSEEN with its figures and gap-open tick kept (R94, R95, R118). -/
def Channel.unsee (c : Channel) : Channel := { c with sequence := .unseen }

/-- CLEAR_FEEDS at one pair (R95). -/
def State.clearPair (s : State) (p : PairId) : State :=
  let a := s.pairs[p]
  let s := s.setPair p { a with
    pool := []
    window := []
    lag := .empty
    dropBefore := false
    counters := { a.counters with flushed := satAdd a.counters.flushed a.pool.length } }
  { s with channels := Vector.ofFn fun c : ChannelId =>
      if s.tables.channel[c].belongsTo p then s.channels[c].unsee else s.channels[c] }

/-! ## The rows of the pair arbiters -/

/-- TAKING_EVENT (R74). -/
def execTakingEvent (p : PairId) (s : State) : Host.Outcome State Fault Refusal :=
  .next (s.whenReleased fun s => if s.takingDue p then s.take p else s)

/-- GAP_TIMER_EXPIRY (R103). -/
def execGapTimerExpiry (c : ChannelId) (s : State) : Host.Outcome State Fault Refusal :=
  .next (s.whenRunning fun s =>
    match s.gapExpiry c with
    | some (p, expiry) => if expiry ≤ s.tick then (s.expireGap p c).settle else s
    | none => s)

end Sys2Proof.Machine
end

