-- ==== Sys2Proof/Machine/Reference.lean ====
section
/-! DEFINITION. Reference monitors and selector (chapter 2): the label receiver, the judging of pulses, the monitor
states, the pulse timeout and the selection. -/

namespace Sys2Proof.Machine

/-! ## Selector (R36 to R39) -/

/-- What a monitor passes with an accepted pulse (R39). -/
structure AcceptedPulse where
  capture : Nat
  previousCapture : Nat
  seconds : Nat
  deriving DecidableEq, Repr

/-- What a monitor tells the selector at an event. -/
inductive SelectorEvent where
  | nothing
  | becameGood
  | leftGood
  | accepted (pulse : AcceptedPulse)
  deriving DecidableEq, Repr

/-- A discipline computation starts with its inputs as they stand (R12). -/
def State.startDiscipline (s : State) (r : RefId) (p : AcceptedPulse) : State :=
  let t := s.tables.timebase
  s.setTimeBase { s.timeBase with
    discipline := some {
      capture := p.capture
      previousCapture := p.previousCapture
      labelTime := (p.seconds : Int) * Config.unitsPerSecond
      pulseDelay := (s.tables.reference[r].pulseDelay : Int) * Config.unitsPerStamp
      stepThreshold := t.stepThreshold
      lockLimit := t.lockLimit
      lockCount := t.lockCount
      slewGain := t.slewGain
      previous := s.timeBase.previous
      current := s.timeBase.current } }

/-- The selector turns from one reference to the other and raises REF_SWITCH; a computation in flight is abandoned, and
the time base keeps its state and runs (R10, R12, R37, R38). -/
def State.switchTo (s : State) (r : RefId) : State :=
  ((s.setSelected (some r)).abandonDiscipline).raise sourceRefSwitch

/-- A revertive switch to this reference is due (R38). -/
def State.revertsTo (s : State) (r : RefId) : Bool := s.tables.timebase.revertive && s.tables.timebase.preferred == r

/-- A monitor becomes GOOD (R36, R38). -/
def State.selectorBecameGood (s : State) (r : RefId) : State :=
  match s.selected with
  | none => (s.setSelected (some r)).tbSelected
  | some current => if current ≠ r ∧ s.revertsTo r then s.switchTo r else s

/-- A monitor leaves GOOD (R37). -/
def State.selectorLeftGood (s : State) (r : RefId) : State :=
  if s.selected = some r then
    if s.monitors[otherRef r].state = .good then s.switchTo (otherRef r)
    else ((s.setSelected none).abandonDiscipline).tbUnselected
  else s

/-- An accepted pulse (R38, R39). -/
def State.selectorAccepted (s : State) (r : RefId) (p : AcceptedPulse) : State :=
  match s.selected with
  | none => s
  | some current =>
    if current = r then s.startDiscipline r p
    else if s.revertsTo r then (s.switchTo r).startDiscipline r p
    else s

def State.selectorEvent (s : State) (r : RefId) : SelectorEvent → State
  | .nothing => s
  | .becameGood => s.selectorBecameGood r
  | .leftGood => s.selectorLeftGood r
  | .accepted p => s.selectorAccepted r p

/-! ## Pulses (R24, R28 to R32) -/

/-- A pulse at capture x is good: its label is present and traceable, follows on, and the interval is within the
tolerance (R28). -/
def Monitor.judges (m : Monitor) (tolerance x : Nat) : Bool :=
  match m.slot, m.refPoint.seconds with
  | some label, some before =>
    label.traceable && label.seconds == (before + 1) % 2 ^ 48 &&
      decide (((x : Int) - m.refPoint.capture - Config.fineCountsPerSecond).natAbs ≤ 16 * tolerance)
  | _, _ => false

/-- The pulse becomes the reference point, and the slot is emptied (R27, R29). -/
def Monitor.takePulse (m : Monitor) (x : Nat) : Monitor :=
  { m with refPoint := ⟨x, m.slot.map (·.seconds)⟩, slot := none }

/-- A pulse event at a monitor: the monitor after it, and what the selector is told (R30 to R32). -/
def Monitor.pulse (m : Monitor) (entry : ReferenceEntry) (x : Nat) : Monitor × SelectorEvent :=
  match m.state with
  | .absent =>
    if m.slot.isSome then ({ m.takePulse x with state := .qualifying, qualifyCount := 0 }, .nothing)
    else ({ m with badPulses := satInc m.badPulses }, .nothing)
  | .qualifying =>
    if m.judges entry.tolerance x then
      let count := m.qualifyCount + 1
      let m' := { m.takePulse x with goodPulses := satInc m.goodPulses, qualifyCount := count }
      if entry.qualifyCount ≤ count then ({ m' with state := .good }, .becameGood) else (m', .nothing)
    else ({ m.takePulse x with badPulses := satInc m.badPulses, qualifyCount := 0 }, .nothing)
  | .good =>
    if m.judges entry.tolerance x then
      ({ m.takePulse x with goodPulses := satInc m.goodPulses },
        .accepted ⟨x, m.refPoint.capture, (m.slot.map (·.seconds)).getD 0⟩)
    else ({ m.takePulse x with badPulses := satInc m.badPulses, state := .qualifying, qualifyCount := 0 }, .leftGood)

/-- The notice source that goes with what the selector is told (R31, R32). -/
def SelectorEvent.source (e : SelectorEvent) (r : RefId) : Option (Fin 52) :=
  match e with
  | .becameGood => some (sourceRefGood r)
  | .leftGood => some (sourceRefLost r)
  | .nothing => none
  | .accepted _ => none

def State.raiseSome (s : State) : Option (Fin 52) → State
  | none => s
  | some id => s.raise id

/-- A monitor changes, its notice source is raised and the selector is told. -/
def State.monitorEvent (s : State) (r : RefId) (m : Monitor) (e : SelectorEvent) : State :=
  ((s.setMonitor r m).raiseSome (e.source r)).selectorEvent r e

/-- The pulse event of one reference (R24); no effect while the reference is disabled. -/
def State.pulseOn (s : State) (r : RefId) (phase : Phase) : State :=
  let entry := s.tables.reference[r]
  if entry.enabled then
    let after := s.monitors[r].pulse entry (s.now + phase.val)
    s.monitorEvent r after.1 after.2
  else s

/-- The pulse events of a tick: with an edge on each line, the preferred reference's is taken first (R36). -/
def State.pulses (s : State) : PulseEdges → State
  | .one r phase => s.pulseOn r phase
  | .both phase0 phase1 =>
    if s.tables.timebase.preferred = 0 then (s.pulseOn 0 phase0).pulseOn 1 phase1
    else (s.pulseOn 1 phase1).pulseOn 0 phase0

/-! ## Pulse timeout (R33) -/

/-- The tick at which a running pulse timeout expires (R33); computed, not stored (log 17). -/
def State.pulseExpiry (s : State) (r : RefId) : Option Nat :=
  let m := s.monitors[r]
  if m.state = .absent then none
  else some (m.refPoint.capture / 16 + Config.ticksPerSecond + s.tables.reference[r].tolerance + 1)

/-- A monitor as it falls to ABSENT (R33, R34). -/
def Monitor.toAbsent (m : Monitor) : Monitor :=
  { m with state := .absent, qualifyCount := 0, slot := none, refPoint := ⟨0, none⟩ }

/-- What the selector is told when a monitor in this state falls to ABSENT. -/
def MonitorState.lossEvent : MonitorState → SelectorEvent
  | .good => .leftGood
  | _ => .nothing

/-- The pulse timeout expiry, when its tick has been reached (R33). -/
def State.expirePulse (s : State) (r : RefId) : State :=
  match s.pulseExpiry r with
  | some t =>
    if t ≤ s.tick then
      let m := s.monitors[r]
      s.monitorEvent r { m.toAbsent with misses := satInc m.misses } m.state.lossEvent
    else s
  | none => s

/-! ## Label line (R25 to R27) -/

/-- A collected message is valid (R26). -/
def labelValid (bytes : List Byte) : Bool :=
  numAt bytes 1 1 == 0x53 && numAt bytes 10 1 == 0x0D &&
    numAt bytes 9 1 == ((slice bytes 1 8).foldl (fun a b => a + b.toNat) 0) % 256

/-- The label of a valid message (R26). -/
def labelOf (bytes : List Byte) : Label := ⟨numAt bytes 2 6, numAt bytes 8 1 % 2 == 1⟩

/-- The completion of a message of eleven bytes (R26, R27). -/
def Monitor.completeLabel (m : Monitor) (bytes : List Byte) : Monitor :=
  if labelValid bytes then
    { m with receiver := .hunting, slot := some (labelOf bytes), lastLabelSeconds := (labelOf bytes).seconds }
  else { m with receiver := .hunting, badLabels := satInc m.badLabels }

/-- A byte on the label line (R25); it acts in full whichever row brings the byte (DESIGN CHOICE, log 16). -/
def Monitor.labelByte (m : Monitor) (byte : Byte) (framingError : Bool) : Monitor :=
  match m.receiver with
  | .stopped => m
  | .hunting => if byte = 0x7E ∧ framingError = false then { m with receiver := .collecting [byte] } else m
  | .collecting bytes =>
    if framingError then { m with receiver := .hunting, badLabels := satInc m.badLabels }
    else if 10 ≤ bytes.length then m.completeLabel (bytes ++ [byte])
    else { m with receiver := .collecting (bytes ++ [byte]) }

/-- The receiver is collecting and has kept bytes 0 to 9. -/
def LabelReceiver.awaitsLast : LabelReceiver → Bool
  | .collecting bytes => decide (10 ≤ bytes.length)
  | _ => false

/-- The receiver is collecting. -/
def LabelReceiver.isCollecting : LabelReceiver → Bool
  | .collecting _ => true
  | _ => false

/-! ## The rows of the references -/

/-- PULSE_EVENT (R24). -/
def execPulseEvent (edges : PulseEdges) (s : State) : Host.Outcome State Fault Refusal :=
  .next (s.whenRunning fun s => (s.pulses edges).settle)

/-- PULSE_TIMEOUT_EXPIRY (R33). -/
def execPulseTimeoutExpiry (r : RefId) (s : State) : Host.Outcome State Fault Refusal :=
  .next (s.whenRunning fun s =>
    match s.pulseExpiry r with
    | some t => if t ≤ s.tick then (s.expirePulse r).settle else s
    | none => s)

/-- LABEL_BYTE_RECEIVED (R25). -/
def execLabelByteReceived (r : RefId) (byte : Byte) (framingError : Bool) (s : State) :
    Host.Outcome State Fault Refusal :=
  .next (s.whenReleased fun s => s.setMonitor r (s.monitors[r].labelByte byte framingError))

/-- LABEL_MESSAGE_COMPLETION (R26): byte 10 of the message in collection. -/
def execLabelMessageCompletion (r : RefId) (lastByte : Byte) (s : State) : Host.Outcome State Fault Refusal :=
  .next (s.whenReleased fun s =>
    if s.monitors[r].receiver.awaitsLast then s.setMonitor r (s.monitors[r].labelByte lastByte false) else s)

/-- LABEL_FRAMING_ERROR (R25): a byte with a framing error during collection. -/
def execLabelFramingError (r : RefId) (s : State) : Host.Outcome State Fault Refusal :=
  .next (s.whenReleased fun s =>
    if s.monitors[r].receiver.isCollecting then s.setMonitor r (s.monitors[r].labelByte 0 true) else s)

end Sys2Proof.Machine
end

