-- ==== Sys2Proof/Machine/Tables.lean ====
section
/-! DEFINITION. The seven tables (chapters 1 to 4, 8 to 10; R157, R158, R176): entry layouts, entry checks with their
clamps, and what an accepted write does at its completion. -/

namespace Sys2Proof.Machine

/-- The tables, by table number (section 9.5). -/
inductive TableId where
  | line
  | profile
  | channel
  | reference
  | timebase
  | notice
  | delivery
  deriving DecidableEq, Repr

def TableId.ofNumber : Nat → Option TableId
  | 0 => some .line
  | 1 => some .profile
  | 2 => some .channel
  | 3 => some .reference
  | 4 => some .timebase
  | 5 => some .notice
  | 6 => some .delivery
  | _ => none

/-- Entries of a table (section 9.5). -/
def TableId.entries : TableId → Nat
  | .line => 8
  | .profile => 4
  | .channel => 256
  | .reference => 2
  | .timebase => 1
  | .notice => 1
  | .delivery => 2

/-- Entry size in bytes (R176). -/
def TableId.entrySize : TableId → Nat
  | .line => 8
  | .profile => 14
  | .channel => 11
  | .reference => 8
  | .timebase => 16
  | .notice => 18
  | .delivery => 2

/-! ## Entries as TABLE_READ returns them (R176) -/

def LineEntry.layout (e : LineEntry) : List Byte := field 4 e.lineDelay ++ field 4 e.silenceLimit

def ProfileEntry.layout (e : ProfileEntry) : List Byte :=
  boolField e.enabled ++ field 2 e.keyOffset1 ++ field 2 e.keyOffset2 ++ field 2 e.sequenceOffset ++
    field 1 e.sequenceWidth ++ boolField e.littleEndian ++ field 2 e.countOffset ++ field 1 e.countWidth ++
    boolField e.dropUnlisted ++ field 1 e.deliveryLine.val

def ChannelEntry.layout (e : ChannelEntry) : List Byte :=
  boolField e.enabled ++ field 1 e.pair.val ++ macField e.key ++ field 2 e.gapWait ++ field 1 e.resetExponent

def ReferenceEntry.layout (e : ReferenceEntry) : List Byte :=
  boolField e.enabled ++ field 4 e.pulseDelay ++ field 1 e.qualifyCount ++ field 2 e.tolerance

def TimebaseEntry.layout (e : TimebaseEntry) : List Byte :=
  field 4 e.stepThreshold ++ field 4 e.lockLimit ++ field 1 e.lockCount ++ field 1 e.slewGain ++
    field 4 e.holdoverLimit ++ field 1 e.preferred.val ++ boolField e.revertive

def NoticeEntry.layout (e : NoticeEntry) : List Byte :=
  boolField e.globalEnable ++ e.masks.toList.flatMap boolField ++ e.ranks.toList.flatMap (field 1) ++
    field 2 e.spacing ++ field 1 e.noticeLine.val ++ macField e.destination

def DeliveryTableEntry.layout (e : DeliveryTableEntry) : List Byte :=
  field 1 e.groupOrder.val ++ boolField e.rotating

/-- The bytes of one entry, as it is stored; nothing past the table's end (R157; log 15). -/
def Tables.entryBytes (t : Tables) (table : TableId) (i : Nat) : List Byte :=
  match table with
  | .line => (t.line[i]?.map LineEntry.layout).getD []
  | .profile => (t.profile[i]?.map ProfileEntry.layout).getD []
  | .channel => (t.channel[i]?.map ChannelEntry.layout).getD []
  | .reference => (t.reference[i]?.map ReferenceEntry.layout).getD []
  | .timebase => if i = 0 then t.timebase.layout else []
  | .notice => if i = 0 then t.notice.layout else []
  | .delivery => (t.delivery[i]?.map DeliveryTableEntry.layout).getD []

/-! ## Fields as a write carries them -/

/-- A field that must be 0 or 1. -/
def boolAt (bs : List Byte) (o : Nat) : Option Bool :=
  match numAt bs o 1 with
  | 0 => some false
  | 1 => some true
  | _ => none

/-- A field that must name one of n things. -/
def finAt (n : Nat) (bs : List Byte) (o : Nat) : Option (Fin n) :=
  if h : numAt bs o 1 < n then some ⟨numAt bs o 1, h⟩ else none

/-- A numeric setting clamped to its range (R23, R34, R56). -/
def clampTo (low high v : Nat) : Nat := max low (min v high)

/-- The outcome of one entry's write: refused with a status, or accepted, whether clamped, and the state after it. -/
inductive EntryOutcome where
  | refused (status : Status)
  | accepted (clamped : Bool) (state : State)

/-! ## LINE (R56) -/

def LineEntry.ofBytes (bs : List Byte) : LineEntry := ⟨clampTo 0 16777215 (numAt bs 0 4), clampTo 0 65535 (numAt bs 4 4)⟩

/-- A value of the write was clamped. -/
def LineEntry.wasClamped (e : LineEntry) (bs : List Byte) : Bool :=
  e.lineDelay != numAt bs 0 4 || e.silenceLimit != numAt bs 4 4

/-- A silence timer under a new silence limit (R56). -/
def FeedLine.newLimit (f : FeedLine) (limit tick : Nat) : FeedLine :=
  match f.silenceStart with
  | some _ => if limit = 0 then { f with silenceStart := none } else f
  | none =>
    if f.silent then (if limit = 0 then { f with silent := false } else f)
    else if f.link = .up ∧ f.mode ≠ .off ∧ limit ≠ 0 then { f with silenceStart := some tick }
    else f

/-- An accepted write of a LINE entry: the entry, the silence timer, and an expiry that is already due (R56). -/
def State.writeLine (s : State) (l : LineId) (e : LineEntry) : State :=
  let s := s.setTables { s.tables with line := s.tables.line.set l e }
  (s.setLine l (s.lines[l].newLimit e.silenceLimit s.tick)).expireSilence l

def State.lineWrite (s : State) (i : Nat) (bs : List Byte) : EntryOutcome :=
  if h : i < 8 then .accepted ((LineEntry.ofBytes bs).wasClamped bs) (s.writeLine ⟨i, h⟩ (.ofBytes bs))
  else .refused .badArgument

/-! ## PROFILE (R67, R68) -/

/-- The fields of a PROFILE write, when each is within its values (R68). -/
def ProfileEntry.ofBytes (bs : List Byte) : Option ProfileEntry :=
  match boolAt bs 0, boolAt bs 8, boolAt bs 12, finAt 2 bs 13 with
  | some enabled, some little, some dropped, some dline =>
    let e : ProfileEntry :=
      ⟨enabled, numAt bs 1 2, numAt bs 3 2, numAt bs 5 2, numAt bs 7 1, little, numAt bs 9 2, numAt bs 11 1, dropped, dline⟩
    if e.keyOffset1 ≤ 2044 ∧ e.keyOffset2 ≤ 2046 ∧ e.sequenceOffset ≤ 2040 ∧
        (e.sequenceWidth = 4 ∨ e.sequenceWidth = 8) ∧ e.countOffset ≤ 2046 ∧ e.countWidth ≤ 2 then some e
    else none
  | _, _, _, _ => none

def State.writeProfile (s : State) (p : PairId) (e : ProfileEntry) : State :=
  s.setTables { s.tables with profile := s.tables.profile.set p e }

def State.profileWrite (s : State) (i : Nat) (bs : List Byte) : EntryOutcome :=
  if h : i < 4 then
    if s.pairLive ⟨i, h⟩ then .refused .busy
    else
      match ProfileEntry.ofBytes bs with
      | some e => .accepted false (s.writeProfile ⟨i, h⟩ e)
      | none => .refused .badArgument
  else .refused .badArgument

/-! ## CHANNEL (R67, R69, R70) -/

/-- The reset exponent as stored: 0, or clamped to 8..31 (R69). -/
def storedExponent (r : Nat) : Nat := if r = 0 then 0 else clampTo 8 31 r

/-- The fields of a CHANNEL write, when enabled and pair are within their values (R69). -/
def ChannelEntry.ofBytes (bs : List Byte) : Option ChannelEntry :=
  match boolAt bs 0, finAt 4 bs 1 with
  | some enabled, some pair => some ⟨enabled, pair, macAt bs 2, numAt bs 8 2, storedExponent (numAt bs 10 1)⟩
  | _, _ => none

/-- The write gate of a CHANNEL entry (R67). -/
def State.channelGate (s : State) (c : ChannelId) (e : ChannelEntry) : Bool :=
  let old := s.tables.channel[c]
  (old.enabled && s.pairLive old.pair) || (e.enabled && s.pairLive e.pair)

/-- Another entry that belongs to the same pair has the same key (R69). -/
def State.duplicateKey (s : State) (c : ChannelId) (e : ChannelEntry) : Bool :=
  e.enabled && (List.finRange 256).any fun o =>
    o != c && s.tables.channel[o].belongsTo e.pair && s.tables.channel[o].key == e.key

/-- An accepted CHANNEL write: the entry, and its channel returned to UNSEEN with its figures 0 (R70). -/
def State.writeChannel (s : State) (c : ChannelId) (e : ChannelEntry) : State :=
  (s.setTables { s.tables with channel := s.tables.channel.set c e }).setChannel c
    { s.channels[c] with sequence := .unseen, lostGaps := 0, lostMessages := 0 }

def State.channelWrite (s : State) (i : Nat) (bs : List Byte) : EntryOutcome :=
  if h : i < 256 then
    match ChannelEntry.ofBytes bs with
    | none => .refused .badArgument
    | some e =>
      if s.channelGate ⟨i, h⟩ e then .refused .busy
      else if s.duplicateKey ⟨i, h⟩ e then .refused .badArgument
      else .accepted (e.resetExponent != numAt bs 10 1) (s.writeChannel ⟨i, h⟩ e)
  else .refused .badArgument

/-! ## REFERENCE (R34) -/

def ReferenceEntry.ofBytes (bs : List Byte) : Option ReferenceEntry :=
  (boolAt bs 0).map fun enabled =>
    ⟨enabled, clampTo 0 16777215 (numAt bs 1 4), clampTo 2 255 (numAt bs 5 1), clampTo 16 65535 (numAt bs 6 2)⟩

def ReferenceEntry.wasClamped (e : ReferenceEntry) (bs : List Byte) : Bool :=
  e.pulseDelay != numAt bs 1 4 || e.qualifyCount != numAt bs 5 1 || e.tolerance != numAt bs 6 2

/-- The monitor of a reference that is disabled (R34). -/
def State.disableReference (s : State) (r : RefId) : State :=
  let m := s.monitors[r]
  s.monitorEvent r { m.toAbsent with receiver := .stopped } m.state.lossEvent

/-- The monitor of a reference that is enabled (R34). -/
def State.enableReference (s : State) (r : RefId) : State :=
  s.setMonitor r { s.monitors[r] with receiver := .hunting }

/-- An accepted REFERENCE write (R34), with a pulse timeout that is already due under the new tolerance (R33). -/
def State.writeReference (s : State) (r : RefId) (e : ReferenceEntry) : State :=
  let was := s.tables.reference[r].enabled
  let s := s.setTables { s.tables with reference := s.tables.reference.set r e }
  if was && !e.enabled then s.disableReference r
  else if !was && e.enabled then s.enableReference r
  else s.expirePulse r

def State.referenceWrite (s : State) (i : Nat) (bs : List Byte) : EntryOutcome :=
  if h : i < 2 then
    match ReferenceEntry.ofBytes bs with
    | some e => .accepted (e.wasClamped bs) (s.writeReference ⟨i, h⟩ e)
    | none => .refused .badArgument
  else .refused .badArgument

/-! ## TIMEBASE (R20, R23) -/

def TimebaseEntry.ofBytes (bs : List Byte) : Option TimebaseEntry :=
  match finAt 2 bs 14, boolAt bs 15 with
  | some preferred, some revertive =>
    some ⟨clampTo 100 1000000 (numAt bs 0 4), clampTo 10 65535 (numAt bs 4 4), clampTo 1 15 (numAt bs 8 1),
      clampTo 0 4 (numAt bs 9 1), clampTo 0 65535 (numAt bs 10 4), preferred, revertive⟩
  | _, _ => none

def TimebaseEntry.wasClamped (e : TimebaseEntry) (bs : List Byte) : Bool :=
  e.stepThreshold != numAt bs 0 4 || e.lockLimit != numAt bs 4 4 || e.lockCount != numAt bs 8 1 ||
    e.slewGain != numAt bs 9 1 || e.holdoverLimit != numAt bs 10 4

/-- An accepted TIMEBASE write, with a holdover expiry that is already due under the new limit (R20, R23). -/
def State.writeTimebase (s : State) (e : TimebaseEntry) : State :=
  (s.setTables { s.tables with timebase := e }).expireHoldover

def State.timebaseWrite (s : State) (i : Nat) (bs : List Byte) : EntryOutcome :=
  if i = 0 then
    match TimebaseEntry.ofBytes bs with
    | some e => .accepted (e.wasClamped bs) (s.writeTimebase e)
    | none => .refused .badArgument
  else .refused .badArgument

/-! ## NOTICE (R165, R169) -/

def NoticeEntry.ofBytes (bs : List Byte) : Option NoticeEntry :=
  match boolAt bs 0, boolAt bs 1, boolAt bs 2, boolAt bs 3, boolAt bs 4, finAt 2 bs 11 with
  | some enable, some m0, some m1, some m2, some m3, some dline =>
    some ⟨enable, #v[m0, m1, m2, m3],
      #v[clampTo 0 3 (numAt bs 5 1), clampTo 0 3 (numAt bs 6 1), clampTo 0 3 (numAt bs 7 1), clampTo 0 3 (numAt bs 8 1)],
      numAt bs 9 2, dline, macAt bs 12⟩
  | _, _, _, _, _, _ => none

/-- A rank of the write was clamped (R165). -/
def noticeClamped (bs : List Byte) : Bool :=
  decide (3 < numAt bs 5 1) || decide (3 < numAt bs 6 1) || decide (3 < numAt bs 7 1) || decide (3 < numAt bs 8 1)

/-- A running spacing timer under a new spacing: it expires now when the spacing is 0 or its tick has passed (R169). -/
def State.moveSpacing (s : State) : State :=
  match s.spacingExpiry with
  | some t => if s.tables.notice.spacing = 0 ∨ t ≤ s.tick then s.stopSpacing else s
  | none => s

/-- An accepted NOTICE write (R165). -/
def State.writeNotice (s : State) (e : NoticeEntry) : State :=
  (s.setTables { s.tables with notice := e }).moveSpacing

def State.noticeWrite (s : State) (i : Nat) (bs : List Byte) : EntryOutcome :=
  if i = 0 then
    match NoticeEntry.ofBytes bs with
    | some e => .accepted (noticeClamped bs) (s.writeNotice e)
    | none => .refused .badArgument
  else .refused .badArgument

/-! ## DELIVERY (R143) -/

def DeliveryTableEntry.ofBytes (bs : List Byte) : Option DeliveryTableEntry :=
  match finAt 6 bs 0, boolAt bs 1 with
  | some order, some rotating => some ⟨order, rotating⟩
  | _, _ => none

def State.writeDelivery (s : State) (d : DlineId) (e : DeliveryTableEntry) : State :=
  s.setTables { s.tables with delivery := s.tables.delivery.set d e }

def State.deliveryWrite (s : State) (i : Nat) (bs : List Byte) : EntryOutcome :=
  if h : i < 2 then
    match DeliveryTableEntry.ofBytes bs with
    | some e => .accepted false (s.writeDelivery ⟨i, h⟩ e)
    | none => .refused .badArgument
  else .refused .badArgument

/-- One entry's write by its table's entry rule (R158). -/
def State.entryWrite (s : State) (table : TableId) (i : Nat) (bs : List Byte) : EntryOutcome :=
  match table with
  | .line => s.lineWrite i bs
  | .profile => s.profileWrite i bs
  | .channel => s.channelWrite i bs
  | .reference => s.referenceWrite i bs
  | .timebase => s.timebaseWrite i bs
  | .notice => s.noticeWrite i bs
  | .delivery => s.deliveryWrite i bs

end Sys2Proof.Machine
end

