-- ==== Sys2Proof/Machine/Management.lean ====
section
/-! DEFINITION. The management unit (chapter 9): receive filter and inbox, the walk over a command's entries, the checks
of a request in their order, results, replies, and the taking of commands. -/

namespace Sys2Proof.Machine

/-! ## Requests (R151, R174, R175) -/

/-- A request whose kind, argument length and argument values are those its rule allows. -/
inductive Action where
  | identify
  | readTime
  | readReference (r : RefId)
  | readCountersLine (l : LineId) (clear : Bool)
  | readCountersPair (p : PairId) (clear : Bool)
  | readCountersDelivery (d : DlineId) (clear : Bool)
  | readChannels (start count : Nat)
  | readLag (p : PairId) (clear : Bool)
  | readNotices (clear : Bool)
  | tableRead (table : TableId) (start count : Nat)
  | tableWrite (table : TableId) (start : Nat) (entries : List (List Byte))
  | setLineMode (l : LineId) (mode : LineMode)
  | setTime (seconds ns : Nat)
  | trimRate (offset : Int)
  | clearFeeds (pair : Option PairId)
  | clearNotices
  | restart
  deriving DecidableEq, Repr

/-- The fifteen request kinds (R174). -/
def knownKind (kind : Nat) : Bool :=
  kind ∈ [0x01, 0x02, 0x03, 0x04, 0x05, 0x06, 0x07, 0x10, 0x11, 0x20, 0x21, 0x22, 0x30, 0x31, 0x3F]

def LineMode.ofCode : Nat → Option LineMode
  | 0 => some .off
  | 1 => some .monitor
  | 2 => some .live
  | _ => none

/-- The entries a TABLE_WRITE carries (R158). -/
def entriesOf (bs : List Byte) (size count : Nat) : List (List Byte) := (List.range count).map fun i => slice bs (i * size) size

/-- READ_COUNTERS: scope, index, clear (R156). -/
def parseReadCounters (a : List Byte) : Option Action :=
  match numAt a 0 1, boolAt a 2 with
  | 0, some clear => (finAt 8 a 1).map (Action.readCountersLine · clear)
  | 1, some clear => (finAt 4 a 1).map (Action.readCountersPair · clear)
  | 2, some clear => (finAt 2 a 1).map (Action.readCountersDelivery · clear)
  | _, _ => none

/-- TABLE_READ: table, start, count (R157). -/
def parseTableRead (a : List Byte) : Option Action :=
  match TableId.ofNumber (numAt a 0 1) with
  | none => none
  | some table =>
    let start := numAt a 1 2
    let count := numAt a 3 1
    if 1 ≤ count ∧ count ≤ 16 ∧ start + count ≤ table.entries then some (.tableRead table start count) else none

/-- TABLE_WRITE: table, start, 1..16 whole entries (R158). -/
def parseTableWrite (a : List Byte) : Option Action :=
  match TableId.ofNumber (numAt a 0 1) with
  | none => none
  | some table =>
    let size := table.entrySize
    let count := (a.length - 3) / size
    if 3 ≤ a.length ∧ (a.length - 3) % size = 0 ∧ 1 ≤ count ∧ count ≤ 16 then
      some (.tableWrite table (numAt a 1 2) (entriesOf (a.drop 3) size count))
    else none

/-- SET_LINE_MODE: line, mode (R42). -/
def parseSetLineMode (a : List Byte) : Option Action :=
  match finAt 8 a 0, LineMode.ofCode (numAt a 1 1) with
  | some l, some mode => some (.setLineMode l mode)
  | _, _ => none

/-- READ_LAG: pair, clear (R128). -/
def parseReadLag (a : List Byte) : Option Action :=
  match finAt 4 a 0, boolAt a 1 with
  | some p, some clear => some (.readLag p clear)
  | _, _ => none

/-- CLEAR_FEEDS: pair 0..3, or 255 for all (R95). -/
def parseClearFeeds (a : List Byte) : Option Action :=
  if numAt a 0 1 = 255 then some (.clearFeeds none) else (finAt 4 a 0).map fun p => .clearFeeds (some p)

/-- Check 4 of R151 for a known kind: the argument length and the argument values; none is BAD_ARGUMENT. -/
def Request.action (r : Request) : Option Action :=
  let a := r.args
  let n := a.length
  match r.kind.toNat with
  | 0x01 => if n = 0 then some .identify else none
  | 0x02 => if n = 0 then some .readTime else none
  | 0x03 => if n = 1 then (finAt 2 a 0).map .readReference else none
  | 0x04 => if n = 3 then parseReadCounters a else none
  | 0x05 =>
    let start := numAt a 0 1
    let count := numAt a 1 1
    if n = 2 ∧ 1 ≤ count ∧ count ≤ 16 ∧ start + count ≤ 256 then some (.readChannels start count) else none
  | 0x06 => if n = 2 then parseReadLag a else none
  | 0x07 => if n = 1 then (boolAt a 0).map .readNotices else none
  | 0x10 => if n = 4 then parseTableRead a else none
  | 0x11 => parseTableWrite a
  | 0x20 => if n = 2 then parseSetLineMode a else none
  | 0x21 => if n = 10 ∧ numAt a 6 4 ≤ 999999999 then some (.setTime (numAt a 0 6) (numAt a 6 4)) else none
  | 0x22 => if n = 4 then some (.trimRate (signedAt a 0 4)) else none
  | 0x30 => if n = 1 then parseClearFeeds a else none
  | 0x31 => if n = 0 then some .clearNotices else none
  | 0x3F => if n = 0 then some .restart else none
  | _ => none

/-- The data length of a result that ends with DONE or LIMITED (R175). -/
def Action.dataLength : Action → Nat
  | .identify => 10
  | .readTime => 39
  | .readReference _ => 24
  | .readCountersLine _ _ => 48
  | .readCountersPair _ _ => 64
  | .readCountersDelivery _ _ => 26
  | .readChannels _ count => 19 * count
  | .readLag _ _ => 56
  | .readNotices _ => 104
  | .tableRead table _ count => count * table.entrySize
  | .tableWrite _ _ _ => 1
  | .setLineMode _ _ => 0
  | .setTime _ _ => 0
  | .trimRate _ => 0
  | .clearFeeds _ => 0
  | .clearNotices => 0
  | .restart => 0

/-- The bytes a result takes in a reply (R153). -/
def Result.size (r : Result) : Nat := 4 + r.data.length

/-- The bytes the results kept so far take. -/
def resultsSize (rs : List Result) : Nat := rs.foldl (fun n r => n + r.size) 0

/-- The sum of the size check (R153). -/
def replySize (rs : List Result) (dataLength after : Nat) : Nat := 21 + resultsSize rs + (4 + dataLength) + 4 * after

/-- Checks 2 to 5 of R151: the status that decides the request when it is taken up, or the action to execute. -/
def examine (broadcast : Bool) (rs : List Result) (r : Request) (after : Nat) : Except Status Action :=
  if !knownKind r.kind.toNat then .error .unknown
  else if broadcast && r.kind != 0x01 then .error .refused
  else
    match r.action with
    | none => .error .badArgument
    | some a => if Config.replyLimit < replySize rs a.dataLength after then .error .refused else .ok a

/-- The result of a request that is not examined (check 1 of R151). -/
def skipped (r : Request) : Result := ⟨r.kind, .skipped, []⟩

/-- Decide at once every request that checks 1 to 5 decide, up to the first one to be executed (R152). -/
def decideAtOnce (broadcast stopOnFault : Bool) : List Request → List Result → List Request × List Result
  | [], rs => ([], rs)
  | r :: rest, rs =>
    match examine broadcast rs r rest.length with
    | .ok _ => (r :: rest, rs)
    | .error st =>
      if stopOnFault && st.isFault then ([], rs ++ [Result.mk r.kind st []] ++ rest.map skipped)
      else decideAtOnce broadcast stopOnFault rest (rs ++ [Result.mk r.kind st []])

/-- The command with the requests decided that are decided when taken up. -/
def CommandInFlight.advance (c : CommandInFlight) : CommandInFlight :=
  let after := decideAtOnce c.broadcast c.stopOnFault c.remaining c.results
  { c with remaining := after.1, results := after.2 }

/-- The action of the request being executed. -/
def CommandInFlight.current (c : CommandInFlight) : Option Action :=
  match c.remaining with
  | [] => none
  | r :: rest => (examine c.broadcast c.results r rest.length).toOption

/-- The command after the completion of its current request (R151, R152). -/
def CommandInFlight.complete (c : CommandInFlight) (st : Status) (data : List Byte) : CommandInFlight :=
  match c.remaining with
  | [] => c
  | r :: rest =>
    let c := { c with
      results := c.results ++ [Result.mk r.kind st data], remaining := rest, written := 0, clamped := false }
    if c.stopOnFault && st.isFault then { c with results := c.results ++ rest.map skipped, remaining := [] }
    else c.advance

/-! ## Replies (R153, R154, R174) -/

/-- One result as a reply carries it. -/
def Result.bytes (r : Result) : List Byte := [r.kind] ++ field 1 r.status.code ++ field 2 r.data.length ++ r.data

/-- The reply frame, without FCS (R154). -/
def replyFrame (destination source : Mac) (malformed : Bool) (token : BitVec 16) (rs : List Result) : List Byte :=
  managementHeader destination source 2 malformed.toNat token rs.length ++ rs.flatMap Result.bytes

/-- The command's last result is a RESTART with DONE (R147, R160). -/
def endsInRestart (rs : List Result) : Bool :=
  match rs.getLast? with
  | some r => r.kind == 0x3F && r.status == .done
  | none => false

/-- Hand a reply to the reply queue of a line; at a full queue it is dropped and REPLY_DROPPED is raised (R140). -/
def State.handReply (s : State) (d : DlineId) (r : Reply) : State :=
  let q := s.deliveries[d].replies
  if q.length < Config.replyQueueSize then s.setDelivery d { s.deliveries[d] with replies := q ++ [r] }
  else s.raise sourceReplyDropped

/-- The end of a command: its reply is built and handed over, and the unit moves on (R147, R154, R160). -/
def State.endCommand (s : State) (c : CommandInFlight) : State :=
  let restart := endsInRestart c.results
  let full := decide (Config.replyQueueSize ≤ s.deliveries[c.dline].replies.length)
  let frame := replyFrame c.source (stationAddress s.strapLatch) false c.token c.results
  let s := (s.setUnit .idle).handReply c.dline ⟨frame, restart⟩
  if restart then (if full then s.startRestart else s.setUnit .restartPending) else s

/-- The unit with this command in flight, or its end when no request remains. -/
def State.carryOn (s : State) (c : CommandInFlight) : State :=
  if c.remaining.isEmpty then s.endCommand c else s.setUnit (.executing c)

/-! ## Taking a command (R147, R149) -/

/-- Walk the request entries of a command; none when an entry reaches past the last byte (R149). -/
def walkEntries : Nat → List Byte → Option (List Request)
  | 0, _ => some []
  | k + 1, kind :: high :: low :: rest =>
    let n := bigEndian [high, low]
    if n ≤ rest.length then (walkEntries k (rest.drop n)).map (Request.mk kind (rest.take n) :: ·) else none
  | _ + 1, _ => none

/-- The requests of a command frame, or none when it is malformed (R149). -/
def requestsOf (frame : List Byte) : Option (List Request) :=
  let count := numAt frame 20 1
  if 1 ≤ count ∧ count ≤ 16 then walkEntries count (frame.drop 21) else none

/-- The token of a command frame. -/
def tokenOf (frame : List Byte) : BitVec 16 := BitVec.ofNat 16 (numAt frame 18 2)

/-- The unit takes a command (R149): a malformed one is answered at once, another becomes the command in flight. -/
def State.takeCommand (s : State) (c : InboxCommand) : State :=
  match requestsOf c.frame with
  | none =>
    s.handReply c.dline ⟨replyFrame (macAt c.frame 6) (stationAddress s.strapLatch) true (tokenOf c.frame) [], false⟩
  | some requests =>
    s.carryOn (CommandInFlight.advance
      ⟨c.dline, c.broadcast, macAt c.frame 6, tokenOf c.frame, numAt c.frame 17 1 % 2 == 1, requests, [], 0, false⟩)

/-- The IDLE unit takes commands while the inbox holds one (R147). -/
def State.takeCommands : Nat → State → State
  | 0, s => s
  | turns + 1, s =>
    match s.unit, s.inbox with
    | .idle, c :: rest => State.takeCommands turns ((s.setInbox rest).takeCommand c).settle
    | _, _ => s

/-- What follows an event of the management unit: builds and choices, and the taking of commands by an IDLE unit. -/
def State.settleUnit (s : State) : State :=
  let s := s.settle
  s.takeCommands s.inbox.length

/-! ## Completion of the current request (R152) -/

/-- What an executed request leaves: the state, its status and its data. -/
structure Served where
  state : State
  status : Status
  data : List Byte

/-- A request that only reads. -/
def State.answer (s : State) (data : List Byte) : Served := ⟨s, .done, data⟩

/-- The request being executed ends with this status and data; its result is kept, and the unit goes on (R152). -/
def State.afterRequest (s : State) (c : CommandInFlight) (st : Status) (data : List Byte) : State :=
  (s.carryOn (c.complete st data)).settleUnit

/-- The completion of the request being executed when the row is its row; nothing otherwise (DESIGN CHOICE, log 1). -/
def State.serve (s : State) (row : Action → Option (State → CommandInFlight → Served)) : State :=
  match s.unit with
  | .executing c =>
    match c.current.bind row with
    | some act => (act s c).state.afterRequest c (act s c).status (act s c).data
    | none => s
  | _ => s

/-- An entry of a TABLE_WRITE of `total` entries has been written: the unit goes on to the next one, or the request
ends with DONE, or LIMITED when a value was clamped (R158). -/
def State.acceptEntry (s : State) (c : CommandInFlight) (total : Nat) (clamped : Bool) : State :=
  let c := { c with written := c.written + 1, clamped := c.clamped || clamped }
  if c.written < total then (s.setUnit (.executing c)).settleUnit
  else s.afterRequest c (if c.clamped then .limited else .done) (field 1 c.written)

/-- An entry of a TABLE_WRITE is refused: the request ends with the entry's status and the number of entries written
(R158, R176). -/
def State.refuseEntry (s : State) (c : CommandInFlight) (st : Status) : State :=
  s.afterRequest c st (field 1 c.written)

/-- The completion of one entry of the TABLE_WRITE being executed, when it writes this table (R158). -/
def State.serveEntry (s : State) (table : TableId) : State :=
  match s.unit with
  | .executing c =>
    match c.current with
    | some (.tableWrite t start entries) =>
      if t = table then
        match entries[c.written]? with
        | none => s
        | some bs =>
          match s.entryWrite table (start + c.written) bs with
          | .refused st => s.refuseEntry c st
          | .accepted clamped s' => s'.acceptEntry c entries.length clamped
      else s
    | _ => s
  | _ => s

/-! ## Receive filter and inbox (R142, R148) -/

/-- The tests of the receive filter, in order; the answer is the same whichever test a foreign frame fails (R142). -/
def isCommandFrame (station : Mac) (bytes : List Byte) (receiveError : Bool) : Bool :=
  decide (64 ≤ bytes.length) && decide (bytes.length ≤ 2048) && !receiveError && fcsMatches bytes &&
    slice bytes 12 2 == [0x88, 0xB5] && slice bytes 14 3 == [0x4F, 0x43, 0x01] &&
    (macAt bytes 0 == station || macAt bytes 0 == Config.broadcast)

/-- A frame received on a delivery line whose link is UP (R142). -/
def State.receiveFrame (s : State) (d : DlineId) (bytes : List Byte) (receiveError : Bool) : State :=
  let line := s.deliveries[d]
  if line.link = .down then s
  else
    let all := line.reception.getD [] ++ bytes
    let line := { line with reception := none }
    if isCommandFrame (stationAddress s.strapLatch) all receiveError then
      if s.inbox.length < Config.inboxSize then
        let s := s.setDelivery d { line with
          counters := { line.counters with commandsAccepted := satInc line.counters.commandsAccepted } }
        (s.setInbox (s.inbox ++ [⟨withoutFcs all, d, macAt all 0 == Config.broadcast⟩])).settleUnit
      else ((s.setDelivery d line).raise sourceCommandDropped).settle
    else s.setDelivery d { line with counters := { line.counters with foreign := satInc line.counters.foreign } }

/-- DELIVERY_FRAME_COMPLETION (R142). -/
def execDeliveryFrameCompletion (d : DlineId) (bytes : List Byte) (receiveError : Bool) (s : State) :
    Host.Outcome State Fault Refusal :=
  .next (s.whenReleased (·.receiveFrame d bytes receiveError))

end Sys2Proof.Machine
end

