-- ==== Sys2Proof/Machine/Requests.lean ====
section
/-! DEFINITION. The requests (chapter 9, R155 to R160, and the rules of the blocks they act on): what each returns and
changes at its completion. -/

namespace Sys2Proof.Machine

/-! ## Figures of the reads (R175) -/

/-- IDENTIFY (R155): part code, revision, strap value, station address. -/
def State.identifyData (s : State) : List Byte :=
  field 2 0x8400 ++ field 1 Config.revision ++ field 1 s.strapLatch.toNat ++ macField (stationAddress s.strapLatch)

/-- READ_TIME (R7). -/
def State.timeData (s : State) : List Byte :=
  let t := s.timeBase
  let stamp := t.stamp s.now 0
  field 1 t.quality ++ field 1 (selectedCode s.selected) ++ field 6 (stampSeconds stamp) ++ field 4 (stampNs stamp) ++
    field 1 (stampSub stamp) ++ field 8 t.current.rate.toNat ++ signedField 8 t.lastError ++ field 1 t.lockRun ++
    field 1 t.outlierRun ++ field 4 s.holdoverAge ++ field 4 t.stepCount

/-- READ_REFERENCE (R35). -/
def Monitor.data (m : Monitor) : List Byte :=
  field 1 m.state.code ++ field 1 m.qualifyCount ++ field 6 m.lastLabelSeconds ++ field 4 m.goodPulses ++
    field 4 m.badPulses ++ field 4 m.misses ++ field 4 m.badLabels

def LineCounters.data (c : LineCounters) : List Byte :=
  [c.goodFrames, c.fcsErrors, c.runts, c.oversize, c.overflow, c.truncated, c.flushed, c.linkFlaps].flatMap (field 4)

/-- READ_COUNTERS, line scope (R57). -/
def FeedLine.data (f : FeedLine) : List Byte :=
  f.counters.data ++ field 6 (stampSeconds f.lastArrival.stamp) ++ field 4 (stampNs f.lastArrival.stamp) ++
    field 1 (stampSub f.lastArrival.stamp) ++ field 1 f.lastArrival.quality ++ field 1 (linkCode f.link) ++
    field 1 f.mode.code ++ boolField f.silent ++ field 1 f.buffer.length

def PairCounters.data (k : PairCounters) : List Byte :=
  [k.taken, k.delivered, k.twins, k.sameLineRepeats, k.late, k.conflicts, k.superseded, k.unlistedDelivered,
    k.unlistedDropped, k.undecodable, k.lostGaps, k.lostMessages, k.forcedReleases, k.deliveryDrops,
    k.flushed].flatMap (field 4)

/-- READ_COUNTERS, pair scope (R93). -/
def PairArbiter.data (a : PairArbiter) : List Byte :=
  a.counters.data ++ field 1 a.queue.length ++ field 1 a.pool.length ++ field 1 a.window.length ++
    boolField a.dropBefore

def DeliveryCounters.data (c : DeliveryCounters) : List Byte :=
  [c.feedSent, c.repliesSent, c.noticesSent, c.discarded, c.foreign, c.commandsAccepted].flatMap (field 4)

/-- READ_COUNTERS, delivery scope (R144). -/
def DeliveryLine.data (d : DeliveryLine) : List Byte :=
  d.counters.data ++ field 1 (linkCode d.link) ++ field 1 d.replies.length

/-- The held frames of a channel: none while its entry belongs to no pair (R60, R94). -/
def State.heldCount (s : State) (c : ChannelId) : Nat :=
  let e := s.tables.channel[c]
  if e.enabled then (s.pairs[e.pair].pool.filter (·.channel == c)).length else 0

/-- READ_CHANNELS, one channel (R94, R175). X is written whole in its eight bytes, even where a PROFILE write has since
narrowed the pair's sequence width from 8 to 4 bytes and kept an X of 2^32 or more (R68, R76; DESIGN CHOICE, log 20). -/
def State.channelData (s : State) (c : ChannelId) : List Byte :=
  let ch := s.channels[c]
  field 1 c.val ++ field 1 ch.sequence.code ++ field 8 (s.expectedOf c) ++ field 1 (s.heldCount c) ++
    field 4 ch.lostGaps ++ field 4 ch.lostMessages

/-- READ_CHANNELS: channels start to start + count − 1 in ascending order (R156). -/
def State.channelsData (s : State) (start count : Nat) : List Byte :=
  (List.range count).flatMap fun i => if h : start + i < 256 then s.channelData ⟨start + i, h⟩ else []

/-- READ_LAG (R128). -/
def LagStats.data (g : LagStats) : List Byte :=
  [g.samples, g.aFirst, g.bFirst, g.ties].flatMap (field 4) ++
    [g.minLag, g.maxLag, g.lagSum, g.lastLag].flatMap (signedField 8) ++ field 4 g.singleSided ++
    field 4 g.sameLineRepeats

/-- READ_NOTICES: pending flag and repeat count of each source, in id order (R170). -/
def NoticeUnit.data (u : NoticeUnit) : List Byte :=
  u.counts.toList.flatMap fun n => boolField (decide (0 < n)) ++ field 1 n

/-- TABLE_READ (R157). -/
def Tables.readData (t : Tables) (table : TableId) (start count : Nat) : List Byte :=
  (List.range count).flatMap fun i => t.entryBytes table (start + i)

/-! ## Clears -/

/-- The counters of a line set to 0, when clear is set (R57). -/
def State.clearLine (s : State) (l : LineId) (clear : Bool) : State :=
  if clear then s.setLine l { s.lines[l] with counters := .zero } else s

/-- The counters of a pair set to 0, when clear is set (R93). -/
def State.clearPairCounters (s : State) (p : PairId) (clear : Bool) : State :=
  if clear then s.setCounters p .zero else s

/-- The counters of a delivery line set to 0, when clear is set (R144). -/
def State.clearDelivery (s : State) (d : DlineId) (clear : Bool) : State :=
  if clear then s.setDelivery d { s.deliveries[d] with counters := .zero } else s

/-- The lag statistics of a pair emptied, when clear is set (R129). -/
def State.clearLag (s : State) (p : PairId) (clear : Bool) : State :=
  if clear then s.setPair p { s.pairs[p] with lag := .empty } else s

/-! ## SET_LINE_MODE (R42 to R44, R71) -/

/-- The line buffer is flushed, each record counted, when the line leaves LIVE (R44). -/
def FeedLine.flush (f : FeedLine) : FeedLine :=
  { f with buffer := [], counters := { f.counters with flushed := satAdd f.counters.flushed f.buffer.length } }

/-- A line after a change of its mode (R43). -/
def FeedLine.changeMode (f : FeedLine) (mode : LineMode) (limit tick : Nat) : FeedLine :=
  let f' := if f.mode = .live then f.flush else f
  if mode = .off then { f'.stopSilence with mode := .off, reception := none }
  else if f.mode = .off then ({ f' with mode := mode }).startSilence limit tick
  else { f' with mode := mode }

/-- The change of a line's mode, with the release of the pair's hold pool when its last LIVE line leaves LIVE (R43,
R44, R113). -/
def State.changeMode (s : State) (l : LineId) (mode : LineMode) : State :=
  let was := s.lines[l].mode
  let s := s.setLine l (s.lines[l].changeMode mode s.tables.line[l].silenceLimit s.tick)
  if was = .live ∧ s.pairLive (pairOf l) = false then s.releaseAll (pairOf l) else s

/-- SET_LINE_MODE at its completion (R42, R71). -/
def State.serveLineMode (s : State) (l : LineId) (mode : LineMode) : Served :=
  if mode = .live ∧ s.tables.profile[pairOf l].enabled = false then ⟨s, .busy, []⟩
  else if s.lines[l].mode = mode then ⟨s, .done, []⟩
  else ⟨s.changeMode l mode, .done, []⟩

/-! ## SET_TIME, TRIM_RATE, CLEAR_FEEDS, RESTART -/

/-- SET_TIME at its completion (R21). -/
def State.serveSetTime (s : State) (seconds ns : Nat) : Served :=
  if s.timeBase.following then ⟨s, .busy, []⟩
  else ⟨s.installManaged (s.setTimeRecord seconds ns), .done, []⟩

/-- TRIM_RATE at its completion: LIMITED when the clamp changed the value (R22). -/
def State.serveTrimRate (s : State) (off : Int) : Served :=
  if s.timeBase.following then ⟨s, .busy, []⟩
  else
    ⟨s.installManaged (s.trimRecord off),
      if clampRate (Config.nominalRate + off) = Config.nominalRate + off then .done else .limited, []⟩

/-- CLEAR_FEEDS at its completion (R95). -/
def State.serveClearFeeds (s : State) : Option PairId → Served
  | some p => ⟨s.clearPair p, .done, []⟩
  | none => ⟨(((s.clearPair 0).clearPair 1).clearPair 2).clearPair 3, .done, []⟩

/-- RESTART at its completion: DONE when it is the last request by position, BAD_ARGUMENT otherwise (R160;
DEDUCED, log 12). -/
def State.serveRestart (s : State) (c : CommandInFlight) : Served :=
  if c.remaining.length = 1 then ⟨s, .done, []⟩ else ⟨s, .badArgument, []⟩

/-! ## The rows of the requests -/

/-- IDENTIFY (R155). -/
def execIdentify (s : State) : Host.Outcome State Fault Refusal :=
  .next (s.whenReleased (·.serve fun a => match a with
    | .identify => some fun s _ => s.answer s.identifyData
    | _ => none))

/-- READ_TIME (R7). -/
def execReadTime (s : State) : Host.Outcome State Fault Refusal :=
  .next (s.whenReleased (·.serve fun a => match a with
    | .readTime => some fun s _ => s.answer s.timeData
    | _ => none))

/-- READ_REFERENCE (R35). -/
def execReadReference (s : State) : Host.Outcome State Fault Refusal :=
  .next (s.whenReleased (·.serve fun a => match a with
    | .readReference r => some fun s _ => s.answer s.monitors[r].data
    | _ => none))

/-- READ_COUNTERS with a line scope (R57). -/
def execReadCountersLine (s : State) : Host.Outcome State Fault Refusal :=
  .next (s.whenReleased (·.serve fun a => match a with
    | .readCountersLine l clear => some fun s _ => ⟨s.clearLine l clear, .done, s.lines[l].data⟩
    | _ => none))

/-- READ_COUNTERS with a pair scope (R93). -/
def execReadCountersPair (s : State) : Host.Outcome State Fault Refusal :=
  .next (s.whenReleased (·.serve fun a => match a with
    | .readCountersPair p clear => some fun s _ => ⟨s.clearPairCounters p clear, .done, s.pairs[p].data⟩
    | _ => none))

/-- READ_COUNTERS with a delivery scope (R144). -/
def execReadCountersDelivery (s : State) : Host.Outcome State Fault Refusal :=
  .next (s.whenReleased (·.serve fun a => match a with
    | .readCountersDelivery d clear => some fun s _ => ⟨s.clearDelivery d clear, .done, s.deliveries[d].data⟩
    | _ => none))

/-- READ_CHANNELS (R94). -/
def execReadChannels (s : State) : Host.Outcome State Fault Refusal :=
  .next (s.whenReleased (·.serve fun a => match a with
    | .readChannels start count => some fun s _ => s.answer (s.channelsData start count)
    | _ => none))

/-- READ_LAG (R128, R129). -/
def execReadLag (s : State) : Host.Outcome State Fault Refusal :=
  .next (s.whenReleased (·.serve fun a => match a with
    | .readLag p clear => some fun s _ => ⟨s.clearLag p clear, .done, s.pairs[p].lag.data⟩
    | _ => none))

/-- READ_NOTICES (R170). -/
def execReadNotices (s : State) : Host.Outcome State Fault Refusal :=
  .next (s.whenReleased (·.serve fun a => match a with
    | .readNotices clear =>
      some fun s _ => ⟨if clear then s.clearNoticeSources else s, .done, s.notices.data⟩
    | _ => none))

/-- TABLE_READ (R157). -/
def execTableRead (s : State) : Host.Outcome State Fault Refusal :=
  .next (s.whenReleased (·.serve fun a => match a with
    | .tableRead table start count => some fun s _ => s.answer (s.tables.readData table start count)
    | _ => none))

/-- One entry of a TABLE_WRITE of the LINE table (R56, R158). -/
def execLineEntryWrite (s : State) : Host.Outcome State Fault Refusal :=
  .next (s.whenReleased (·.serveEntry .line))

/-- One entry of a TABLE_WRITE of the PROFILE table (R68, R158). -/
def execProfileEntryWrite (s : State) : Host.Outcome State Fault Refusal :=
  .next (s.whenReleased (·.serveEntry .profile))

/-- One entry of a TABLE_WRITE of the CHANNEL table (R69, R70, R158). -/
def execChannelEntryWrite (s : State) : Host.Outcome State Fault Refusal :=
  .next (s.whenReleased (·.serveEntry .channel))

/-- One entry of a TABLE_WRITE of the REFERENCE table (R34, R158). -/
def execReferenceEntryWrite (s : State) : Host.Outcome State Fault Refusal :=
  .next (s.whenReleased (·.serveEntry .reference))

/-- One entry of a TABLE_WRITE of the TIMEBASE table (R23, R158). -/
def execTimebaseEntryWrite (s : State) : Host.Outcome State Fault Refusal :=
  .next (s.whenReleased (·.serveEntry .timebase))

/-- One entry of a TABLE_WRITE of the NOTICE table (R165, R158). -/
def execNoticeEntryWrite (s : State) : Host.Outcome State Fault Refusal :=
  .next (s.whenReleased (·.serveEntry .notice))

/-- One entry of a TABLE_WRITE of the DELIVERY table (R143, R158). -/
def execDeliveryEntryWrite (s : State) : Host.Outcome State Fault Refusal :=
  .next (s.whenReleased (·.serveEntry .delivery))

/-- SET_LINE_MODE (R42, R43). -/
def execSetLineMode (s : State) : Host.Outcome State Fault Refusal :=
  .next (s.whenReleased (·.serve fun a => match a with
    | .setLineMode l mode => some fun s _ => s.serveLineMode l mode
    | _ => none))

/-- SET_TIME (R21). -/
def execSetTime (s : State) : Host.Outcome State Fault Refusal :=
  .next (s.whenReleased (·.serve fun a => match a with
    | .setTime seconds ns => some fun s _ => s.serveSetTime seconds ns
    | _ => none))

/-- TRIM_RATE (R22). -/
def execTrimRate (s : State) : Host.Outcome State Fault Refusal :=
  .next (s.whenReleased (·.serve fun a => match a with
    | .trimRate off => some fun s _ => s.serveTrimRate off
    | _ => none))

/-- CLEAR_FEEDS (R95). -/
def execClearFeeds (s : State) : Host.Outcome State Fault Refusal :=
  .next (s.whenReleased (·.serve fun a => match a with
    | .clearFeeds pair => some fun s _ => s.serveClearFeeds pair
    | _ => none))

/-- CLEAR_NOTICES (R170). -/
def execClearNotices (s : State) : Host.Outcome State Fault Refusal :=
  .next (s.whenReleased (·.serve fun a => match a with
    | .clearNotices => some fun s _ => s.clearNoticeSources.answer []
    | _ => none))

/-- RESTART (R160). -/
def execRestart (s : State) : Host.Outcome State Fault Refusal :=
  .next (s.whenReleased (·.serve fun a => match a with
    | .restart => some fun s c => s.serveRestart c
    | _ => none))

end Sys2Proof.Machine
end

