-- ==== Sys2Proof/Machine/Dispatch.lean ====
section
/-! DEFINITION. One arm per command: the meaning of each row of spec/opcode_table.json. -/

namespace Sys2Proof.Machine

def exec (i : Instr) (s : State) : Host.Outcome State Fault Refusal :=
  match i with
  | .powerOnReset => Sys2Proof.Machine.execPowerOnReset s
  | .powerOnResetRelease straps => Sys2Proof.Machine.execPowerOnResetRelease straps s
  | .stampingClockLock => Sys2Proof.Machine.execStampingClockLock s
  | .pulseEvent edges => Sys2Proof.Machine.execPulseEvent edges s
  | .disciplineCompletion => Sys2Proof.Machine.execDisciplineCompletion s
  | .holdoverExpiry => Sys2Proof.Machine.execHoldoverExpiry s
  | .pulseTimeoutExpiry ref => Sys2Proof.Machine.execPulseTimeoutExpiry ref s
  | .labelMessageCompletion ref lastByte => Sys2Proof.Machine.execLabelMessageCompletion ref lastByte s
  | .labelFramingError ref => Sys2Proof.Machine.execLabelFramingError ref s
  | .feedLinkChange line link => Sys2Proof.Machine.execFeedLinkChange line link s
  | .startOfFrame line phase => Sys2Proof.Machine.execStartOfFrame line phase s
  | .frameCompletion line bytes receiveError => Sys2Proof.Machine.execFrameCompletion line bytes receiveError s
  | .silenceTimerExpiry line => Sys2Proof.Machine.execSilenceTimerExpiry line s
  | .takingEvent pair => Sys2Proof.Machine.execTakingEvent pair s
  | .gapTimerExpiry channel => Sys2Proof.Machine.execGapTimerExpiry channel s
  | .deliveryLinkChange dline link => Sys2Proof.Machine.execDeliveryLinkChange dline link s
  | .transmitCompletion dline => Sys2Proof.Machine.execTransmitCompletion dline s
  | .deliveryFrameCompletion dline bytes receiveError => Sys2Proof.Machine.execDeliveryFrameCompletion dline bytes receiveError s
  | .identify => Sys2Proof.Machine.execIdentify s
  | .readTime => Sys2Proof.Machine.execReadTime s
  | .readReference => Sys2Proof.Machine.execReadReference s
  | .readCountersLine => Sys2Proof.Machine.execReadCountersLine s
  | .readCountersPair => Sys2Proof.Machine.execReadCountersPair s
  | .readCountersDelivery => Sys2Proof.Machine.execReadCountersDelivery s
  | .readChannels => Sys2Proof.Machine.execReadChannels s
  | .readLag => Sys2Proof.Machine.execReadLag s
  | .readNotices => Sys2Proof.Machine.execReadNotices s
  | .tableRead => Sys2Proof.Machine.execTableRead s
  | .lineEntryWrite => Sys2Proof.Machine.execLineEntryWrite s
  | .profileEntryWrite => Sys2Proof.Machine.execProfileEntryWrite s
  | .channelEntryWrite => Sys2Proof.Machine.execChannelEntryWrite s
  | .referenceEntryWrite => Sys2Proof.Machine.execReferenceEntryWrite s
  | .timebaseEntryWrite => Sys2Proof.Machine.execTimebaseEntryWrite s
  | .noticeEntryWrite => Sys2Proof.Machine.execNoticeEntryWrite s
  | .deliveryEntryWrite => Sys2Proof.Machine.execDeliveryEntryWrite s
  | .setLineMode => Sys2Proof.Machine.execSetLineMode s
  | .setTime => Sys2Proof.Machine.execSetTime s
  | .trimRate => Sys2Proof.Machine.execTrimRate s
  | .clearFeeds => Sys2Proof.Machine.execClearFeeds s
  | .clearNotices => Sys2Proof.Machine.execClearNotices s
  | .restart => Sys2Proof.Machine.execRestart s
  | .spacingTimerExpiry => Sys2Proof.Machine.execSpacingTimerExpiry s
  | .labelByteReceived ref byte framingError => Sys2Proof.Machine.execLabelByteReceived ref byte framingError s
  | .tick straps => Sys2Proof.Machine.execTick straps s

end Sys2Proof.Machine
end

