-- ==== Sys2Proof/Safety.lean ====
section
/-! DEFINITION. What the claims about the part are stated in: the situations in which a request is served and in which
nothing follows an event, the requests that ask for each action, the reset values, and the invariants every step
keeps. -/

namespace Sys2Proof.Machine

/-! ## Situations -/

/-- No build and no choice can follow an event: the global notice enable is off (R166) and both transmitters are busy
(R136). -/
def State.Quiet (s : State) : Prop :=
  s.tables.notice.globalEnable = false ∧ ∀ d : DlineId, s.deliveries[d].transmitter ≠ .idle

/-- The management unit is executing a request, whose action this is (R152). -/
def State.Serving (s : State) (c : CommandInFlight) (a : Action) : Prop :=
  s.clock ≠ .resetHeld ∧ s.unit = .executing c ∧ c.current = some a

/-- The TABLE_WRITE being executed is about to write this entry, at this index of the table (R158). -/
def State.WritingEntry (s : State) (c : CommandInFlight) (table : TableId) (entries : List (List Byte)) (i : Nat)
    (bs : List Byte) : Prop :=
  ∃ start, s.Serving c (.tableWrite table start entries) ∧ entries[c.written]? = some bs ∧ i = start + c.written

/-- A taking of this pair takes this record (R73): at least one tick has passed, and the record is the head of its
line's buffer, chosen by the captures of the two heads. -/
def State.Takes (s : State) (p : PairId) (l : LineId) (r : FrameRecord) (rest : List FrameRecord) : Prop :=
  s.clock ≠ .resetHeld ∧ (∀ t, s.pairs[p].serviceTick = some t → t < s.tick) ∧ s.lines[l].buffer = r :: rest ∧
    ((l = sideA p ∧ ∀ b ∈ s.lines[sideB p].buffer.head?, r.capture ≤ b.capture) ∨
      (l = sideB p ∧ ∀ a ∈ s.lines[sideA p].buffer.head?, r.capture < a.capture))

/-! ## Requests -/

/-- A request carries this action: its kind byte (R174), its argument length (R175) and its argument values, each within
the values of its rule (R156, R157, R158, and section 9.6). -/
def Action.AskedBy (a : Action) (r : Request) : Prop :=
  let n := r.args.length
  let arg := numAt r.args
  let table (t : TableId) : Prop :=
    [TableId.line, .profile, .channel, .reference, .timebase, .notice, .delivery][arg 0 1]? = some t
  match a with
  | .identify => r.kind = 0x01 ∧ n = 0
  | .readTime => r.kind = 0x02 ∧ n = 0
  | .readReference i => r.kind = 0x03 ∧ n = 1 ∧ arg 0 1 = i.val
  | .readCountersLine l clear => r.kind = 0x04 ∧ n = 3 ∧ arg 0 1 = 0 ∧ arg 1 1 = l.val ∧ arg 2 1 = clear.toNat
  | .readCountersPair p clear => r.kind = 0x04 ∧ n = 3 ∧ arg 0 1 = 1 ∧ arg 1 1 = p.val ∧ arg 2 1 = clear.toNat
  | .readCountersDelivery d clear => r.kind = 0x04 ∧ n = 3 ∧ arg 0 1 = 2 ∧ arg 1 1 = d.val ∧ arg 2 1 = clear.toNat
  | .readChannels start count => r.kind = 0x05 ∧ n = 2 ∧ arg 0 1 = start ∧ arg 1 1 = count ∧ 1 ≤ count ∧ count ≤ 16 ∧
      start + count ≤ 256
  | .readLag p clear => r.kind = 0x06 ∧ n = 2 ∧ arg 0 1 = p.val ∧ arg 1 1 = clear.toNat
  | .readNotices clear => r.kind = 0x07 ∧ n = 1 ∧ arg 0 1 = clear.toNat
  | .tableRead t start count => r.kind = 0x10 ∧ n = 4 ∧ table t ∧ arg 1 2 = start ∧ arg 3 1 = count ∧ 1 ≤ count ∧
      count ≤ 16 ∧ start + count ≤ t.entries
  | .tableWrite t start entries => r.kind = 0x11 ∧ 3 ≤ n ∧ table t ∧ arg 1 2 = start ∧ r.args.drop 3 = entries.flatten ∧
      (∀ e ∈ entries, e.length = t.entrySize) ∧ 1 ≤ entries.length ∧ entries.length ≤ 16
  | .setLineMode l mode => r.kind = 0x20 ∧ n = 2 ∧ arg 0 1 = l.val ∧
      arg 1 1 = (match mode with | .off => 0 | .monitor => 1 | .live => 2)
  | .setTime seconds ns => r.kind = 0x21 ∧ n = 10 ∧ arg 0 6 = seconds ∧ arg 6 4 = ns ∧ ns ≤ 999999999
  | .trimRate off => r.kind = 0x22 ∧ n = 4 ∧ signedAt r.args 0 4 = off
  | .clearFeeds pair => r.kind = 0x30 ∧ n = 1 ∧ arg 0 1 = (match pair with | none => 255 | some p => p.val)
  | .clearNotices => r.kind = 0x31 ∧ n = 0
  | .restart => r.kind = 0x3F ∧ n = 0

/-! ## Reset values (R178, R161) -/

/-- Every block at the values the chapters give for the release of power-on reset and the start of RESTART, with the
straps so latched. The clock, the strap pins, the transmitters and the command queue are stated apart. -/
def State.HoldsResetValues (s : State) (latch : Straps) : Prop :=
  s.tick = 0 ∧ s.strapLatch = latch ∧
  s.timeBase = ⟨⟨0, 0, 10737418240⟩, ⟨0, 0, 10737418240⟩, .unset, 0, 0, 0, 0, 0, false, none⟩ ∧
  (∀ r : RefId, s.monitors[r] = ⟨.absent, 0, ⟨0, none⟩, .hunting, none, 0, 0, 0, 0, 0⟩) ∧
  s.selected = none ∧
  (∀ l : LineId, s.lines[l] = ⟨.down, .off, none, [], none, false, ⟨0, 0⟩, ⟨0, 0, 0, 0, 0, 0, 0, 0⟩⟩) ∧
  (∀ p : PairId, s.pairs[p] = ⟨[], [], ⟨0, 0, 0, 0, 0, 0, 0, 0, 0, 0⟩, false, [],
    ⟨0, 0, 0, 0, 0, 0, 0, 0, 0, 0, 0, 0, 0, 0, 0⟩, none⟩) ∧
  (∀ c : ChannelId, s.channels[c] = ⟨.unseen, 0, 0, 0⟩) ∧
  (∀ d : DlineId, s.deliveries[d] =
    ⟨.down, s.deliveries[d].transmitter, 3, [], none, ⟨0, 0, 0, 0, 0, 0⟩⟩) ∧
  s.unit = .idle ∧ s.inbox = [] ∧
  (∀ l : LineId, s.tables.line[l] = ⟨0, 0⟩) ∧
  (∀ p : PairId, s.tables.profile[p] = ⟨false, 0, 0, 0, 0, false, 0, 0, false, if p.val % 2 = 0 then 0 else 1⟩) ∧
  (∀ c : ChannelId, s.tables.channel[c] = ⟨false, 0, 0, 0, 0⟩) ∧
  (∀ r : RefId, s.tables.reference[r] = ⟨true, 0, 8, 40000⟩) ∧
  s.tables.timebase = ⟨1000, 100, 4, 2, 3600, 0, false⟩ ∧
  s.tables.notice = ⟨false, #v[false, false, false, false], #v[0, 1, 2, 3], 1000,
    if latch.getLsbD 4 then 1 else 0, 0xFFFFFFFFFFFF⟩ ∧
  (∀ d : DlineId, s.tables.delivery[d] = ⟨0, true⟩) ∧
  (∀ n : Fin 52, s.notices.counts[n] = 0) ∧ s.notices.slot = none ∧ s.notices.spacingStart = none

/-! ## Invariants -/

/-- No FIFO, pool or window holds more than its capacity (R52, R98, R119, R91, R140, R148), and no repeat count is
above 255 (R164). -/
def State.WithinCapacity (s : State) : Prop :=
  (∀ l : LineId, s.lines[l].buffer.length ≤ 64) ∧
  (∀ p : PairId, s.pairs[p].pool.length ≤ 128 ∧ s.pairs[p].window.length ≤ 64 ∧ s.pairs[p].queue.length ≤ 128) ∧
  (∀ d : DlineId, s.deliveries[d].replies.length ≤ 4) ∧
  s.inbox.length ≤ 4 ∧
  ∀ n : Fin 52, s.notices.counts[n] ≤ 255

/-- The key of a twin window entry (section 7.1). -/
def TwinEntry.key (e : TwinEntry) : ChannelId × Nat × FrameKind := (e.channel, e.s, e.kind)

/-- No twin window holds two entries with the same key (R119). -/
def State.TwinKeysDistinct (s : State) : Prop := ∀ p : PairId, (s.pairs[p].window.map TwinEntry.key).Nodup

/-- The reference side hangs together: a reference is selected exactly when a monitor is GOOD, and then its own monitor
is (R36, R37); the time base is ACQUIRING or LOCKED exactly while a reference is selected (R8 to R10), and a discipline
computation is in flight only then (R12); a disabled reference is ABSENT with its receiver stopped (R34). -/
def State.SelectionSound (s : State) : Prop :=
  (∀ r : RefId, s.selected = some r → s.monitors[r].state = .good) ∧
  (s.selected = none → ∀ r : RefId, s.monitors[r].state ≠ .good) ∧
  ((s.timeBase.state = .acquiring ∨ s.timeBase.state = .locked) ↔ s.selected ≠ none) ∧
  (s.timeBase.discipline ≠ none → s.selected ≠ none) ∧
  ∀ r : RefId, (s.monitors[r].receiver = .stopped ↔ s.tables.reference[r].enabled = false) ∧
    (s.tables.reference[r].enabled = false → s.monitors[r].state = .absent)

/-- A rate word lies within W_nom ± 2,097,152 (R17). -/
def AnchorRecord.withinClamp (r : AnchorRecord) : Prop := 10735321088 ≤ r.rate ∧ r.rate ≤ 10739515392

/-- The anchor store is sound: rate words within the clamp (R17), F_a of the current record not below that of the
previous one (R3), and no record placed further ahead than its lead of 4,096 ticks (R4). -/
def State.AnchorsSound (s : State) : Prop :=
  s.timeBase.previous.withinClamp ∧ s.timeBase.current.withinClamp ∧
  s.timeBase.previous.effective ≤ s.timeBase.current.effective ∧
  s.timeBase.current.effective ≤ s.tick * 16 + 65536 ∧
  (∀ d, s.timeBase.discipline = some d → d.capture / 16 ≤ s.tick ∧ s.timeBase.current.effective ≤ d.capture + 65536) ∧
  (s.clock ≠ .running → s.tick = 0)

/-- Lines and tables fit together: only a LIVE line buffers records (R44); a pair with a LIVE line has an enabled
profile (R71) and an enabled profile names a width (R59); the enabled channels of a pair have distinct keys (R69); a
frame is in reception only on a line that is UP and not OFF (R45, R47); the silence timer runs, or the silent condition is set,
only where R54 allows it; and a profile's count field is at most two bytes wide (R59, R68). -/
def State.LinesSound (s : State) : Prop :=
  (∀ l : LineId, s.lines[l].mode ≠ .live → s.lines[l].buffer = []) ∧
  (∀ l : LineId, s.lines[l].mode = .live → s.tables.profile[pairOf l].enabled = true) ∧
  (∀ p : PairId, s.tables.profile[p].enabled = true →
    s.tables.profile[p].sequenceWidth = 4 ∨ s.tables.profile[p].sequenceWidth = 8) ∧
  (∀ c c' : ChannelId, s.tables.channel[c].enabled = true → s.tables.channel[c'].enabled = true →
    s.tables.channel[c].pair = s.tables.channel[c'].pair → s.tables.channel[c].key = s.tables.channel[c'].key →
    c = c') ∧
  (∀ l : LineId, s.lines[l].reception ≠ none → s.lines[l].link = .up ∧ s.lines[l].mode ≠ .off) ∧
  (∀ p : PairId, s.tables.profile[p].countWidth ≤ 2) ∧
  ∀ l : LineId, (s.lines[l].silenceStart ≠ none ∨ s.lines[l].silent = true) →
    s.lines[l].link = .up ∧ s.lines[l].mode ≠ .off ∧ s.tables.line[l].silenceLimit ≠ 0 ∧
    ¬(s.lines[l].silenceStart ≠ none ∧ s.lines[l].silent = true)

/-- Holds and channel states agree: a pair with no LIVE line holds nothing (R113); every held frame is a data frame of a
channel of its pair that has a gap wait, and starts beyond that channel's X (R85, R99); the held frames of a channel
stand in ascending order and do not overlap (R99); a channel of a pair is GAP_OPEN exactly while the pool holds a frame
of it (R75); and a channel of no pair is UNSEEN (R60). -/
def State.HoldsSound (s : State) : Prop :=
  (∀ p : PairId, s.pairLive p = false → s.pairs[p].pool = []) ∧
  (∀ p : PairId, ∀ f ∈ s.pairs[p].pool, s.tables.channel[f.channel].belongsTo p = true ∧ f.n ≠ 0 ∧
    s.tables.channel[f.channel].gapWait ≠ 0 ∧ 0 < offset (s.width p) f.s (s.expectedOf f.channel)) ∧
  (∀ p : PairId, s.pairs[p].pool.Pairwise fun f g => f.channel = g.channel →
    offset (s.width p) f.s (s.expectedOf f.channel) + f.n ≤ offset (s.width p) g.s (s.expectedOf g.channel)) ∧
  (∀ (p : PairId) (c : ChannelId), s.tables.channel[c].belongsTo p = true →
    ((∃ x e, s.channels[c].sequence = .gapOpen x e) ↔ ∃ f ∈ s.pairs[p].pool, f.channel = c)) ∧
  ∀ c : ChannelId, s.tables.channel[c].enabled = false → s.channels[c].sequence = .unseen

/-- Nothing that is ready waits: no idle transmitter has a group that holds a frame (R136), no build is allowed (R166),
an IDLE unit has an empty inbox (R147), an EXECUTING unit is at a request to execute (R152), and the unit is in
RESTART_PENDING exactly while the reply that starts the RESTART is in a reply queue (R147, R160). -/
def State.NothingReadyWaits (s : State) : Prop :=
  (∀ (d : DlineId) (g : TransmitKind), s.deliveries[d].transmitter = .idle → s.groupHolds d g = false) ∧
  s.buildAllowed = false ∧
  (s.unit = .idle → s.inbox = []) ∧
  (∀ c, s.unit = .executing c → c.current ≠ none) ∧
  (s.unit = .restartPending ↔ ∃ d : DlineId, ∃ r ∈ s.deliveries[d].replies, r.startsRestart = true)

end Sys2Proof.Machine
end

