-- ==== Sys2Proof/Certificates/Slice0/Obligations.lean ====
section
/-! DEFINITION. The statements about the part, for the provers. Each docstring names the rules or sections it comes
from, and the log entry (notes/assumptions) where a clause is the model's choice. -/

open Sys2Proof Sys2Proof.Machine

/-! ## Steps, reset and clock -/

/-- The command at the front of the queue acts, the rest of the queue left waiting (log 13). -/
def Obligations.StepRunsFrontCommand : Prop :=
  ∀ (s : State) (c : Instr) (rest : List Instr),
    s.pending = c :: rest → step s = exec c { s with pending := rest }

/-- The release of power-on reset latches the straps and gives every block its reset values; the clock has still to
lock (R178, R146, R162). -/
def Obligations.ReleaseTakesResetValues : Prop :=
  ∀ (s : State) (straps : Straps), s.clock = .resetHeld →
    ∃ t, exec (.powerOnResetRelease straps) s = .next t ∧ t.clock = .awaitingLock ∧ t.strapPins = straps ∧
      t.HoldsResetValues straps ∧ (∀ d : DlineId, t.deliveries[d].transmitter = .idle) ∧ t.pending = s.pending

/-- A low level on RESET_N ends work in flight, cuts the sends and gives every block its reset values (R178). That the
strap latch keeps what it holds until the release is the model's choice (log 14).
While RESET_N is low no command but its release has an effect (R178). -/
def Obligations.PowerOnResetHoldsThePart : Prop :=
  (∀ s : State, ∃ t, exec .powerOnReset s = .next t ∧ t.clock = .resetHeld ∧ t.HoldsResetValues s.strapLatch ∧
      (∀ d : DlineId, t.deliveries[d].transmitter = .idle) ∧ t.pending = s.pending) ∧
  (∀ (s : State) (c : Instr), s.clock = .resetHeld → c ≠ .powerOnReset → (∀ straps, c ≠ .powerOnResetRelease straps) →
      exec c s = .next s)


/-- The tick count starts at 0 when the clock has locked and then increases by one a tick; until the clock runs, no edge
is captured, no timer expires and no tick is counted (R1, R178). -/
def Obligations.ClockStartsTicksCapturesAndTimers : Prop :=
  ∀ s : State,
    (s.clock = .awaitingLock → exec .stampingClockLock s = .next { s with clock := .running, tick := 0 }) ∧
    (∀ straps, s.clock = .running →
      exec (.tick straps) s = .next { s with tick := s.tick + 1, strapPins := straps }) ∧
    (s.clock ≠ .running → ∀ c : Instr,
      ((∃ e, c = .pulseEvent e) ∨ (∃ l ph, c = .startOfFrame l ph) ∨ (∃ r, c = .pulseTimeoutExpiry r) ∨
        c = .holdoverExpiry ∨ (∃ l, c = .silenceTimerExpiry l) ∨ (∃ ch, c = .gapTimerExpiry ch) ∨
        c = .spacingTimerExpiry ∨ ∃ straps, c = .tick straps) →
      exec c s = .next s)

/-! ## Time base (chapter 1) -/

/-- Conversion uses the current record from its effective point on and the previous record below it, T256 is the floor
less the delay held at 0, and the three fields of a stamp are its split (section 1.3).
The two roundings of a discipline computation give a nearest integer; a quotient exactly halfway goes up in W_f (R13)
and away from zero in the phase term (R15). -/
def Obligations.ConversionStampAndRounding : Prop :=
  (∀ (t : TimeBase) (x delay : Nat),
      (t.current.effective ≤ x → convert t.previous t.current x =
        t.current.time + ((x : Int) - t.current.effective) * t.current.rate / 16) ∧
      (x < t.current.effective → convert t.previous t.current x =
        t.previous.time + ((x : Int) - t.previous.effective) * t.previous.rate / 16) ∧
      (t.stamp x delay : Int) = max 0 (convert t.previous t.current x / 2 ^ 24 - delay) ∧
      stampNs (t.stamp x delay) ≤ 999999999 ∧ stampSub (t.stamp x delay) ≤ 255 ∧
      stampSeconds (t.stamp x delay) < 2 ^ 48 ∧
      (t.stamp x delay / 256000000000 < 2 ^ 48 →
        stampSeconds (t.stamp x delay) * 256000000000 + stampNs (t.stamp x delay) * 256 + stampSub (t.stamp x delay) =
          t.stamp x delay)) ∧
  (∀ a b : Int, 0 < b →
      (2 * (roundHalfUp a b * b - a) ≤ b ∧ -b < 2 * (roundHalfUp a b * b - a)) ∧
      (2 * (roundHalfAway a b * b - a) ≤ b ∧ -b ≤ 2 * (roundHalfAway a b * b - a)) ∧
      (2 * (roundHalfAway a b * b - a) = b → 0 ≤ a) ∧ (2 * (roundHalfAway a b * b - a) = -b → a < 0))

/-- Once a slew is installed, stamps of captures ordered by fine count do not go backward (R15), for a store whose rate
words are within the clamp and a pulse not before the current record's own capture. -/
def Obligations.SlewKeepsStampsInOrder : Prop :=
  ∀ (t : TimeBase) (d : Discipline) (x y delay : Nat),
    t.current.withinClamp → t.current.effective ≤ d.capture + 65536 → d.previous = t.previous → d.current = t.current →
    x ≤ y → (t.install d.slewRecord).stamp x delay ≤ (t.install d.slewRecord).stamp y delay

/-- A completed slew installs its record, keeps the error and moves the runs as R18 and R19 state; the lock run reaching
the lock count moves ACQUIRING to LOCKED. That the computation takes at least one tick is the model's (log 7). -/
def Obligations.SlewCompletes : Prop :=
  ∀ (s : State) (d : Discipline), s.clock = .running → s.timeBase.discipline = some d → d.capture / 16 < s.tick →
    d.error.natAbs ≤ d.stepThreshold * 2 ^ 32 →
    let record : AnchorRecord := ⟨d.capture + 65536, convert d.previous d.current (d.capture + 65536),
      max 10735321088 (min (roundHalfUp (10 ^ 9 * 2 ^ 32 * 16) ((d.capture : Int) - d.previousCapture) -
        roundHalfAway (d.error * 16) (((d.capture : Int) - d.previousCapture) * 2 ^ d.slewGain)) 10739515392)⟩
    let slewed (run : Nat) : TimeBase := { s.timeBase with
      previous := s.timeBase.current, current := record, discipline := none, lastError := d.error, lockRun := run,
      outlierRun := 0 }
    d.error = convert d.previous d.current d.capture - (d.labelTime + d.pulseDelay) ∧
    (s.timeBase.state = .locked → exec .disciplineCompletion s =
      .next ({ s with timeBase := slewed s.timeBase.lockRun }).settle) ∧
    (s.timeBase.state = .acquiring → d.lockLimit * 2 ^ 32 < d.error.natAbs → exec .disciplineCompletion s =
      .next ({ s with timeBase := slewed 0 }).settle) ∧
    (s.timeBase.state = .acquiring → d.error.natAbs ≤ d.lockLimit * 2 ^ 32 → s.timeBase.lockRun + 1 < d.lockCount →
      exec .disciplineCompletion s = .next ({ s with timeBase := slewed (s.timeBase.lockRun + 1) }).settle) ∧
    (s.timeBase.state = .acquiring → d.error.natAbs ≤ d.lockLimit * 2 ^ 32 → d.lockCount ≤ s.timeBase.lockRun + 1 →
      exec .disciplineCompletion s =
        .next (({ s with timeBase := { slewed (s.timeBase.lockRun + 1) with state := .locked } }).raise 0).settle)

/-- Above the step threshold: a step in ACQUIRING, an outlier in LOCKED while the outlier run is 0 or 1, and as the third
outlier in a row a step that returns the time base to ACQUIRING (R14, R16, R18, R19). That the computation takes at
least one tick is the model's (log 7). -/
def Obligations.StepOrOutlierCompletes : Prop :=
  ∀ (s : State) (d : Discipline), s.clock = .running → s.timeBase.discipline = some d → d.capture / 16 < s.tick →
    d.stepThreshold * 2 ^ 32 < d.error.natAbs →
    let rate := max 10735321088 (min (roundHalfUp (10 ^ 9 * 2 ^ 32 * 16) ((d.capture : Int) - d.previousCapture))
      10739515392)
    let stepped : TimeBase := { s.timeBase with
      previous := s.timeBase.current
      current := ⟨d.capture + 65536, d.labelTime + d.pulseDelay + 4096 * rate, rate⟩
      discipline := none, lastError := d.error, lockRun := 0, stepCount := min (s.timeBase.stepCount + 1) 4294967295 }
    (s.timeBase.state = .acquiring → exec .disciplineCompletion s =
      .next (({ s with timeBase := stepped }).raise 1).settle) ∧
    (s.timeBase.state = .locked → s.timeBase.outlierRun < 2 → exec .disciplineCompletion s =
      .next ({ s with timeBase := { s.timeBase with
        discipline := none, lastError := d.error, outlierRun := s.timeBase.outlierRun + 1 } }).settle) ∧
    (s.timeBase.state = .locked → 2 ≤ s.timeBase.outlierRun → exec .disciplineCompletion s =
      .next ((({ s with timeBase := { stepped with state := .acquiring, outlierRun := 0 } }).raise 1).raise 0).settle)

/-- The holdover expiry sets the holdover-expired condition and raises HOLDOVER_EXPIRED, once its tick is reached and
the limit is not 0 (R20); with a limit of 0 there is none. -/
def Obligations.HoldoverExpires : Prop :=
  ∀ s : State, s.clock = .running → s.timeBase.state = .holdover → s.timeBase.holdoverExpired = false →
    (s.tables.timebase.holdoverLimit ≠ 0 →
      s.timeBase.holdoverEntryTick + s.tables.timebase.holdoverLimit * 400000000 ≤ s.tick →
      exec .holdoverExpiry s =
        .next (({ s with timeBase := { s.timeBase with holdoverExpired := true } }).raise 2).settle) ∧
    (s.tables.timebase.holdoverLimit = 0 → exec .holdoverExpiry s = .next s)

/-! ## Reference inputs and selection (chapter 2) -/

/-- A pulse in ABSENT starts a qualification when the slot holds a label and counts as bad when it does not; a pulse in
QUALIFYING is counted, becomes the reference point and, as the Q-th good one in a row, makes the monitor GOOD and is
selected while nothing is; while the other reference is selected that one is kept, unless revertive is on and the pulse's
reference preferred, when the selector switches with REF_SWITCH (R24, R28 to R31, R36, R38, R9). -/
def Obligations.PulseQualifiesMonitor : Prop :=
  ∀ (s : State) (r : RefId) (ph : Phase), s.clock = .running → s.tables.reference[r].enabled = true →
    let m := s.monitors[r]
    let x := s.tick * 16 + ph.val
    let entry := s.tables.reference[r]
    let put (m' : Monitor) : State := { s with monitors := s.monitors.set r m' }
    let taken : Monitor := { m with refPoint := ⟨x, m.slot.map Label.seconds⟩, slot := none }
    (m.judges entry.tolerance x = true ↔ ∃ label before, m.slot = some label ∧ m.refPoint.seconds = some before ∧
      label.traceable = true ∧ label.seconds = (before + 1) % 2 ^ 48 ∧
      ((x : Int) - m.refPoint.capture - 6400000000).natAbs ≤ 16 * entry.tolerance) ∧
    (m.state = .absent → m.slot ≠ none → exec (.pulseEvent (.one r ph)) s =
      .next (put { taken with state := .qualifying, qualifyCount := 0 }).settle) ∧
    (m.state = .absent → m.slot = none → exec (.pulseEvent (.one r ph)) s =
      .next (put { m with badPulses := satInc m.badPulses }).settle) ∧
    (m.state = .qualifying → m.judges entry.tolerance x = false → exec (.pulseEvent (.one r ph)) s =
      .next (put { taken with badPulses := satInc m.badPulses, qualifyCount := 0 }).settle) ∧
    (m.state = .qualifying → m.judges entry.tolerance x = true → m.qualifyCount + 1 < entry.qualifyCount →
      exec (.pulseEvent (.one r ph)) s =
        .next (put { taken with goodPulses := satInc m.goodPulses, qualifyCount := m.qualifyCount + 1 }).settle) ∧
    (m.state = .qualifying → m.judges entry.tolerance x = true → entry.qualifyCount ≤ m.qualifyCount + 1 →
      s.selected = none → s.timeBase.state ≠ .acquiring →
      let good := (put { taken with
        state := .good, goodPulses := satInc m.goodPulses, qualifyCount := m.qualifyCount + 1 }).raise (sourceRefGood r)
      exec (.pulseEvent (.one r ph)) s =
        .next (({ good with
          selected := some r
          timeBase := { s.timeBase with
            state := .acquiring, lockRun := 0, outlierRun := 0
            holdoverExpired := if s.timeBase.state = TimeBaseState.holdover then false else s.timeBase.holdoverExpired } }).raise
          0).settle) ∧
    ∀ current, m.state = .qualifying → m.judges entry.tolerance x = true → entry.qualifyCount ≤ m.qualifyCount + 1 →
      s.selected = some current → current ≠ r →
      let good := (put { taken with
        state := .good, goodPulses := satInc m.goodPulses, qualifyCount := m.qualifyCount + 1 }).raise (sourceRefGood r)
      let reverts : Prop := s.tables.timebase.revertive = true ∧ s.tables.timebase.preferred = r
      (¬reverts → exec (.pulseEvent (.one r ph)) s = .next good.settle) ∧
      (reverts → exec (.pulseEvent (.one r ph)) s = .next (({ good with
        selected := some r, timeBase := { s.timeBase with discipline := none } }).raise 3).settle)

/-- A good pulse of the selected reference starts a discipline computation with the inputs of R12; a good pulse of the
preferred reference with revertive on, while the other one is selected, is switched to with REF_SWITCH and starts it
likewise; any other good pulse of a reference that is not selected starts none; a bad pulse takes its monitor out of GOOD
and the selector acts on the other one (R32, R37 to R39, R10). -/
def Obligations.PulseOfGoodMonitor : Prop :=
  ∀ (s : State) (r : RefId) (ph : Phase), s.clock = .running → s.tables.reference[r].enabled = true →
    s.monitors[r].state = .good →
    let m := s.monitors[r]
    let x := s.tick * 16 + ph.val
    let entry := s.tables.reference[r]
    let taken : Monitor := { m with refPoint := ⟨x, m.slot.map Label.seconds⟩, slot := none }
    let good : State := { s with monitors := s.monitors.set r { taken with goodPulses := satInc m.goodPulses } }
    let bad : State := ({ s with monitors := s.monitors.set r { taken with
      badPulses := satInc m.badPulses, state := .qualifying, qualifyCount := 0 } }).raise (sourceRefLost r)
    let computation (label : Label) : TimeBase := { s.timeBase with discipline := some {
      capture := x, previousCapture := m.refPoint.capture, labelTime := (label.seconds : Int) * (10 ^ 9 * 2 ^ 32)
      pulseDelay := (entry.pulseDelay : Int) * 2 ^ 24, stepThreshold := s.tables.timebase.stepThreshold
      lockLimit := s.tables.timebase.lockLimit, lockCount := s.tables.timebase.lockCount
      slewGain := s.tables.timebase.slewGain, previous := s.timeBase.previous, current := s.timeBase.current } }
    let reverts : Prop := s.tables.timebase.revertive = true ∧ s.tables.timebase.preferred = r
    (m.judges entry.tolerance x = true → s.selected = some r → ∀ label, m.slot = some label →
      exec (.pulseEvent (.one r ph)) s = .next ({ good with timeBase := computation label }).settle) ∧
    (∀ current label, m.judges entry.tolerance x = true → s.selected = some current → current ≠ r → reverts →
      m.slot = some label → exec (.pulseEvent (.one r ph)) s =
        .next (({ good with selected := some r, timeBase := computation label }).raise 3).settle) ∧
    (m.judges entry.tolerance x = true → s.selected ≠ some r → (s.selected = none ∨ ¬reverts) →
      exec (.pulseEvent (.one r ph)) s = .next good.settle) ∧
    (m.judges entry.tolerance x = false → exec (.pulseEvent (.one r ph)) s = .next (bad.selectorLeftGood r).settle)

/-- What the selector does when a monitor has left GOOD: nothing when it was not selected; a switch with REF_SWITCH to
the other reference when that is GOOD; otherwise none selected, and the time base goes from LOCKED to HOLDOVER, noting
the tick, or from ACQUIRING to FREE. A computation in flight is abandoned (R37, R10, R12).
With revertive on, the preferred reference is switched to when it becomes GOOD and at its accepted pulse; with revertive
off, or at the reference that is not preferred, neither switches (R38); a pulse of a disabled reference has no effect of its own (R24); and of two edges
in one tick the preferred reference's is taken first (R36; log 3 on the edges that come together). -/
def Obligations.SelectorActsByItsTable : Prop :=
  (∀ (s : State) (r : RefId),
      (s.selected ≠ some r → s.selectorLeftGood r = s) ∧
      (s.selected = some r → s.monitors[otherRef r].state = .good → s.selectorLeftGood r =
        ({ s with selected := some (otherRef r), timeBase := { s.timeBase with discipline := none } }).raise 3) ∧
      (s.selected = some r → s.monitors[otherRef r].state ≠ .good → s.timeBase.state = .locked → s.selectorLeftGood r =
        ({ s with selected := none, timeBase := { s.timeBase with
          discipline := none, state := .holdover, holdoverEntryTick := s.tick, lockRun := 0, outlierRun := 0 } }).raise 0) ∧
      (s.selected = some r → s.monitors[otherRef r].state ≠ .good → s.timeBase.state = .acquiring → s.selectorLeftGood r =
        ({ s with selected := none, timeBase := { s.timeBase with
          discipline := none, state := .free, lockRun := 0, outlierRun := 0 } }).raise 0)) ∧
  (∀ (s : State) (r : RefId),
      (∀ current, s.selected = some current → current ≠ r → s.tables.timebase.revertive = true →
        s.tables.timebase.preferred = r →
        s.selectorBecameGood r =
          ({ s with selected := some r, timeBase := { s.timeBase with discipline := none } }).raise 3 ∧
        ∀ p, s.selectorAccepted r p =
          (({ s with selected := some r, timeBase := { s.timeBase with discipline := none } }).raise
            3).startDiscipline r p) ∧
      (∀ current, s.selected = some current → current ≠ r →
        (s.tables.timebase.revertive = false ∨ s.tables.timebase.preferred ≠ r) →
        s.selectorBecameGood r = s ∧ ∀ p, s.selectorAccepted r p = s) ∧
      (∀ ph, s.clock = .running → s.tables.reference[r].enabled = false →
        exec (.pulseEvent (.one r ph)) s = .next s.settle) ∧
      ∀ ph0 ph1, s.clock = .running → s.tables.timebase.preferred = r → exec (.pulseEvent (.both ph0 ph1)) s =
        .next ((s.pulseOn r (if r = 0 then ph0 else ph1)).pulseOn (otherRef r) (if r = 0 then ph1 else ph0)).settle)


/-- The pulse timeout expires at floor(X / 16) + 400,000,000 + tolerance + 1: the miss is counted, the monitor becomes
ABSENT with its slot and reference point cleared, and a GOOD monitor raises REFn_LOST and tells the selector (R33). -/
def Obligations.PulseTimeoutExpires : Prop :=
  ∀ (s : State) (r : RefId), s.clock = .running →
    s.monitors[r].refPoint.capture / 16 + 400000000 + s.tables.reference[r].tolerance + 1 ≤ s.tick →
    let m := s.monitors[r]
    let after : State := { s with monitors := s.monitors.set r { m with
      state := .absent, qualifyCount := 0, slot := none, refPoint := ⟨0, none⟩, misses := satInc m.misses } }
    (m.state = .qualifying → exec (.pulseTimeoutExpiry r) s = .next after.settle) ∧
    (m.state = .good → exec (.pulseTimeoutExpiry r) s =
      .next ((after.raise (sourceRefLost r)).selectorLeftGood r).settle) ∧
    (m.state = .absent → exec (.pulseTimeoutExpiry r) s = .next s)

/-- The label receiver: hunting for 0x7E, collecting bytes 1 to 9, ended by a framing error as a bad label (R25), and at
byte 10 a valid message fills the slot and any other counts as bad (R26, R27). That the byte row acts like the completion
row at byte 10 and like the framing row at a framing error is the model's choice (log 16). The stopped receiver of a
disabled reference takes nothing (R34). -/
def Obligations.LabelReceiverCollectsAndChecks : Prop :=
  ∀ (s : State) (r : RefId), s.clock ≠ .resetHeld →
    let m := s.monitors[r]
    let put (m' : Monitor) : State := { s with monitors := s.monitors.set r m' }
    (∀ b, m.receiver = .hunting → b = 0x7E →
      exec (.labelByteReceived r b false) s = .next (put { m with receiver := .collecting [b] })) ∧
    (∀ b e, m.receiver = .hunting → (b ≠ 0x7E ∨ e = true) → exec (.labelByteReceived r b e) s = .next s) ∧
    (∀ kept b, m.receiver = .collecting kept → kept.length < 10 →
      exec (.labelByteReceived r b false) s = .next (put { m with receiver := .collecting (kept ++ [b]) })) ∧
    (∀ kept, m.receiver = .collecting kept →
      exec (.labelFramingError r) s =
        .next (put { m with receiver := .hunting, badLabels := min (m.badLabels + 1) 4294967295 }) ∧
      ∀ b, exec (.labelByteReceived r b true) s = exec (.labelFramingError r) s) ∧
    (∀ kept b, m.receiver = .collecting kept → kept.length = 10 →
      let bytes := kept ++ [b]
      let sum := ((bytes.drop 1).take 8).foldl (fun a x => a + x.toNat) 0
      (numAt bytes 1 1 = 0x53 ∧ numAt bytes 9 1 = sum % 256 ∧ b = 0x0D →
        exec (.labelMessageCompletion r b) s = .next (put { m with
          receiver := .hunting
          slot := some ⟨numAt bytes 2 6, numAt bytes 8 1 % 2 == 1⟩
          lastLabelSeconds := numAt bytes 2 6 })) ∧
      (¬(numAt bytes 1 1 = 0x53 ∧ numAt bytes 9 1 = sum % 256 ∧ b = 0x0D) →
        exec (.labelMessageCompletion r b) s =
          .next (put { m with receiver := .hunting, badLabels := min (m.badLabels + 1) 4294967295 })) ∧
      exec (.labelByteReceived r b false) s = exec (.labelMessageCompletion r b) s) ∧
    (m.receiver = .stopped → ∀ b e, exec (.labelByteReceived r b e) s = .next s ∧
      exec (.labelMessageCompletion r b) s = .next s ∧ exec (.labelFramingError r) s = .next s)

/-! ## Feed lines (chapter 3) -/

/-- A change of link state counts a flap and raises LINK_CHANGE in every mode; in MONITOR and LIVE, DOWN truncates the
frame in reception and stops the silence timer, and UP starts the timer when the limit is not 0; a report that repeats
the state does nothing (R41, R47, R54). -/
def Obligations.FeedLinkChanges : Prop :=
  ∀ (s : State) (l : LineId), s.clock ≠ .resetHeld →
    let f := s.lines[l]
    let flapped : LineCounters := { f.counters with linkFlaps := satInc f.counters.linkFlaps }
    let put (f' : FeedLine) : State := (({ s with lines := s.lines.set l f' }).raise (sourceLinkChange l)).settle
    exec (.feedLinkChange l f.link) s = .next s ∧
    (∀ link, f.mode = .off → link ≠ f.link →
      exec (.feedLinkChange l link) s = .next (put { f with link := link, counters := flapped })) ∧
    (f.mode ≠ .off → f.link = .up → f.reception = none → exec (.feedLinkChange l .down) s =
      .next (put { f with link := .down, counters := flapped, silenceStart := none, silent := false })) ∧
    (f.mode ≠ .off → f.link = .up → f.reception ≠ none → exec (.feedLinkChange l .down) s =
      .next (put { f with
        link := .down, reception := none, silenceStart := none, silent := false
        counters := { flapped with truncated := satInc f.counters.truncated } })) ∧
    (f.mode ≠ .off → f.link = .down → s.tables.line[l].silenceLimit ≠ 0 → exec (.feedLinkChange l .up) s =
      .next (put { f with link := .up, counters := flapped, silenceStart := some s.tick, silent := false })) ∧
    (f.mode ≠ .off → f.link = .down → s.tables.line[l].silenceLimit = 0 → exec (.feedLinkChange l .up) s =
      .next (put { f with link := .up, counters := flapped, silent := false }))

/-- A frame start on a MONITOR or LIVE line that is UP is captured as the fine count of its tick and phase; on a line
that is OFF or DOWN it is not (R45, R2).
A completed frame is counted in exactly one row: below 64 bytes a runt, above 2,048 oversize, else an FCS error when
a receive error was signalled or the FCS does not match; each of these is dropped with its capture (R48). -/
def Obligations.FramesAreCapturedAndChecked : Prop :=
  (∀ (s : State) (l : LineId) (ph : Phase), s.clock = .running →
      (s.lines[l].mode ≠ .off → s.lines[l].link = .up → s.lines[l].reception = none → exec (.startOfFrame l ph) s =
        .next { s with lines := s.lines.set l { s.lines[l] with reception := some ⟨s.tick * 16 + ph.val, []⟩ } }) ∧
      (s.lines[l].mode = .off ∨ s.lines[l].link = .down → exec (.startOfFrame l ph) s = .next s)) ∧
  (∀ (s : State) (l : LineId) (bytes : List Byte) (receiveError : Bool) (capture : Nat), s.clock ≠ .resetHeld →
      s.lines[l].mode ≠ .off → s.lines[l].reception = some ⟨capture, []⟩ →
      let f := s.lines[l]
      let drop (k : LineCounters) : State := ({ s with lines := s.lines.set l { f with
        reception := none, counters := k } }).settle
      (bytes.length < 64 → exec (.frameCompletion l bytes receiveError) s =
        .next (drop { f.counters with runts := satInc f.counters.runts })) ∧
      (2048 < bytes.length → exec (.frameCompletion l bytes receiveError) s =
        .next (drop { f.counters with oversize := satInc f.counters.oversize })) ∧
      (64 ≤ bytes.length → bytes.length ≤ 2048 →
        (receiveError = true ∨ bytes.drop (bytes.length - 4) ≠ fcs (bytes.take (bytes.length - 4))) →
        exec (.frameCompletion l bytes receiveError) s =
          .next (drop { f.counters with fcsErrors := satInc f.counters.fcsErrors })))


/-- A good frame is converted with the anchor store, the line delay and the time base state of its completion, counted,
and restarts the silence timer. In MONITOR it is then discarded; in LIVE its record is appended, or dropped with
OVERFLOW when the buffer holds 64 (R48 to R52, R54). -/
def Obligations.GoodFramesAreStamped : Prop :=
  ∀ (s : State) (l : LineId) (bytes : List Byte) (capture : Nat), s.clock ≠ .resetHeld → s.lines[l].link = .up →
    s.lines[l].mode ≠ .off → s.lines[l].reception = some ⟨capture, []⟩ → 64 ≤ bytes.length → bytes.length ≤ 2048 →
    bytes.drop (bytes.length - 4) = fcs (bytes.take (bytes.length - 4)) →
    let f := s.lines[l]
    let stamp := s.timeBase.stamp capture s.tables.line[l].lineDelay
    let stamped : FeedLine := { f with
      reception := none, lastArrival := ⟨stamp, s.timeBase.quality⟩, silent := false
      silenceStart := if s.tables.line[l].silenceLimit = 0 then f.silenceStart else some s.tick
      counters := { f.counters with goodFrames := satInc f.counters.goodFrames } }
    (f.mode = .monitor → exec (.frameCompletion l bytes false) s =
      .next ({ s with lines := s.lines.set l stamped }).settle) ∧
    (f.mode = .live → f.buffer.length < 64 → exec (.frameCompletion l bytes false) s = .next ({ s with
      lines := s.lines.set l { stamped with
        buffer := f.buffer ++ ([⟨bytes, l, capture, stamp, s.timeBase.quality⟩] : List FrameRecord) }
      pairs := if s.buffersEmpty (pairOf l) then
        s.pairs.set (pairOf l) { s.pairs[pairOf l] with serviceTick := some s.tick } else s.pairs }).settle) ∧
    (f.mode = .live → 64 ≤ f.buffer.length → exec (.frameCompletion l bytes false) s =
      .next (({ s with lines := s.lines.set l { stamped with counters := { stamped.counters with
        overflow := satInc f.counters.overflow } } }).raise (sourceOverflow l)).settle)

/-- The silence timer expires L × 400,000 ticks after its start: the silent condition is set, SILENT raised and the timer
stopped (R54, R55); a stopped timer does not expire. -/
def Obligations.SilenceTimerExpires : Prop :=
  ∀ (s : State) (l : LineId), s.clock = .running →
    (∀ t, s.lines[l].silenceStart = some t → t + s.tables.line[l].silenceLimit * 400000 ≤ s.tick →
      exec (.silenceTimerExpiry l) s = .next (({ s with lines := s.lines.set l { s.lines[l] with
        silenceStart := none, silent := true } }).raise (sourceSilent l)).settle) ∧
    (s.lines[l].silenceStart = none → exec (.silenceTimerExpiry l) s = .next s)

/-! ## Pair arbiters (chapters 4 to 7) -/

/-- A taking removes the head with the lower capture, the A side's between equals, counts it as taken and handles it to
the end; with both buffers empty nothing is taken (R73, R74). That a taking is commanded, at least one tick after the
previous one, is the model's form of R73 (log 2). -/
def Obligations.TakingTakesTheEarlierHead : Prop :=
  ∀ (s : State) (p : PairId),
    (∀ l r rest, s.Takes p l r rest → exec (.takingEvent p) s = .next ((({ s with
      lines := s.lines.set l { s.lines[l] with buffer := rest }
      pairs := s.pairs.set p { s.pairs[p] with
        serviceTick := some s.tick
        counters := { s.pairs[p].counters with taken := satInc s.pairs[p].counters.taken } } } : State).handleRecord p
          r)).settle) ∧
    (s.clock ≠ .resetHeld → s.lines[sideA p].buffer = [] → s.lines[sideB p].buffer = [] →
      exec (.takingEvent p) s = .next s)

/-- A frame is undecodable when a field of the profile reaches into its last four bytes or beyond; a decodable one is
listed on the channel of the pair that has its key, with s and n read from the frame, and unlisted when no channel of
the pair has it (R61 to R64). -/
def Obligations.ClassifierFindsTheChannel : Prop :=
  ∀ (s : State) (p : PairId) (bytes : List Byte), s.LinesSound →
    let e := s.tables.profile[p]
    let key := BitVec.ofNat 48 (bigEndian (slice bytes e.keyOffset1 4 ++ slice bytes e.keyOffset2 2))
    let within (o k : Nat) : Prop := o + k + 4 ≤ bytes.length
    let decodable : Prop := within e.keyOffset1 4 ∧ within e.keyOffset2 2 ∧ within e.sequenceOffset e.sequenceWidth ∧
      (e.countWidth = 0 ∨ within e.countOffset e.countWidth)
    let number (o k : Nat) : Nat :=
      if e.littleEndian then bigEndian (slice bytes o k).reverse else bigEndian (slice bytes o k)
    (¬decodable → s.tables.classify p bytes = .undecodable) ∧
    (decodable → ∀ c : ChannelId, s.tables.channel[c].enabled = true → s.tables.channel[c].pair = p →
      s.tables.channel[c].key = key → s.tables.classify p bytes = .listed c (number e.sequenceOffset e.sequenceWidth)
        (if e.countWidth = 0 then 1 else number e.countOffset e.countWidth)) ∧
    (decodable → (∀ c : ChannelId, s.tables.channel[c].enabled = true → s.tables.channel[c].pair = p →
      s.tables.channel[c].key ≠ key) → s.tables.classify p bytes = .unlisted)

/-- An unlisted frame is delivered with UNLISTED, or discarded, by the pair's unlisted policy, and an undecodable one is
handled the same way with UNDECODABLE and counted so too (R62, R66).
A delivered frame is appended to the queue with the DROP_BEFORE mark, which it clears, and counted; at 128 entries it
is dropped, counted as a delivery drop, the mark set and DELIVERY_DROP raised (R88, R90). -/
def Obligations.UnlistedFramesAndDelivery : Prop :=
  (∀ (s : State) (p : PairId) (r : FrameRecord) (decodable : Bool),
      s.tables.classify p r.bytes = (if decodable then .unlisted else .undecodable) →
      let a := s.pairs[p]
      let seen : PairCounters := { a.counters with
        undecodable := if decodable then a.counters.undecodable else satInc a.counters.undecodable }
      (s.tables.profile[p].dropUnlisted = true → s.handleRecord p r = { s with pairs := s.pairs.set p { a with
        counters := { seen with unlistedDropped := satInc a.counters.unlistedDropped } } }) ∧
      (s.tables.profile[p].dropUnlisted = false → s.handleRecord p r = State.deliver { s with pairs := s.pairs.set p { a with
        counters := { seen with unlistedDelivered := satInc a.counters.unlistedDelivered } } } p
          ⟨r, none, 0, { unlisted := true, undecodable := !decodable }⟩)) ∧
  (∀ (s : State) (p : PairId) (e : DeliveryEntry),
      let a := s.pairs[p]
      (a.queue.length < 128 → s.deliver p e = { s with pairs := s.pairs.set p { a with
        queue := a.queue ++ [{ e with flags := { e.flags with dropBefore := a.dropBefore } }]
        dropBefore := false
        counters := { a.counters with delivered := satInc a.counters.delivered } } }) ∧
      (128 ≤ a.queue.length → s.deliver p e = ({ s with pairs := s.pairs.set p { a with
        dropBefore := true
        counters := { a.counters with deliveryDrops := satInc a.counters.deliveryDrops } } }).raise (sourceDeliveryDrop p)))


/-- The distance of a sequence number from X is congruent to their difference and lies in the signed range of the width
(R76), and the first data frame of an UNSEEN channel is delivered with no flag of its own, sets X to its end, opens the
channel and enters the twin window (R78).
A frame that starts at or behind X and ends beyond it is delivered, with OVERLAP when it starts behind; X becomes its
end, it enters the twin window, and the release loop runs (R77, R82). -/
def Obligations.FirstAndInStepFrames : Prop :=
  ((∀ w q x : Nat, 0 < w → -(2 ^ (w - 1) : Int) ≤ offset w q x ∧ offset w q x < 2 ^ (w - 1) ∧
      ∃ k : Int, offset w q x = (q : Int) - x + k * 2 ^ w) ∧
    ∀ (s : State) (p : PairId) (r : FrameRecord) (c : ChannelId) (q n : Nat),
      s.tables.classify p r.bytes = .listed c q n → n ≠ 0 → s.channels[c].sequence = .unseen →
      s.handleRecord p r = State.insertTwin { s.deliver p ⟨r, some ⟨c, q, n⟩, 0, {}⟩ with
        channels := s.channels.set c { s.channels[c] with
          sequence := .inStep ((q + n) % 2 ^ (8 * s.tables.profile[p].sequenceWidth)) } } p ⟨r, c, q, n⟩ .data) ∧
  (∀ (s : State) (p : PairId) (r : FrameRecord) (c : ChannelId) (q n x : Nat),
      s.tables.classify p r.bytes = .listed c q n → n ≠ 0 → s.channels[c].sequence.expected = some x →
      let w := 8 * s.tables.profile[p].sequenceWidth
      let d := offset w q x
      (s.tables.channel[c].resetExponent = 0 ∨ -(2 ^ s.tables.channel[c].resetExponent : Int) ≤ d) → d ≤ 0 → 0 < d + n →
      s.handleRecord p r = (State.insertTwin { s.deliver p ⟨r, some ⟨c, q, n⟩, 0, { overlap := decide (d < 0) }⟩ with
        channels := s.channels.set c { s.channels[c] with
          sequence := s.channels[c].sequence.withExpected ((q + n) % 2 ^ w) } } p ⟨r, c, q, n⟩ .data).release p c)

/-- A frame more than 2^r behind X, r not 0, releases the channel's held frames, is delivered with SEQ_RESET, sets X to its
end, clears the channel's twin window entries, raises SEQ_RESET and is inserted (R77, R79, R115); the reset chain leaves
the channel no held frame. -/
def Obligations.SequenceResetRestartsChannel : Prop :=
  ∀ (s : State) (p : PairId) (r : FrameRecord) (c : ChannelId) (q n x : Nat),
    s.tables.classify p r.bytes = .listed c q n → n ≠ 0 → s.channels[c].sequence.expected = some x →
    s.tables.channel[c].resetExponent ≠ 0 →
    offset (8 * s.tables.profile[p].sequenceWidth) q x < -(2 ^ s.tables.channel[c].resetExponent : Int) →
    ((∃ e, s.channels[c].sequence = .gapOpen x e) ↔ ∃ f ∈ s.pairs[p].pool, f.channel = c) →
    let chained := s.drain p c
    let reset := chained.deliver p ⟨r, some ⟨c, q, n⟩, 0, { seqReset := true }⟩
    (∀ f ∈ chained.pairs[p].pool, f.channel ≠ c) ∧ (∃ y, chained.channels[c].sequence = .inStep y) ∧
    s.handleRecord p r = (State.raise { reset with
      channels := reset.channels.set c { reset.channels[c] with
        sequence := .inStep ((q + n) % 2 ^ (8 * s.tables.profile[p].sequenceWidth)) }
      pairs := reset.pairs.set p { reset.pairs[p] with
        window := reset.pairs[p].window.filter (·.channel != c) } } (sourceSeqReset p)).insertTwin p ⟨r, c, q, n⟩ .data

/-- In old range a frame found in the twin window from the other line is a twin, from its own line a same-line repeat, and
a frame not found is LATE; X, the state and the hold pool stay (R77, R80, R81). -/
def Obligations.OldFrameIsTwinRepeatOrLate : Prop :=
  ∀ (s : State) (p : PairId) (r : FrameRecord) (c : ChannelId) (q n x : Nat),
    s.tables.classify p r.bytes = .listed c q n → n ≠ 0 → s.channels[c].sequence.expected = some x →
    let d := offset (8 * s.tables.profile[p].sequenceWidth) q x
    (s.tables.channel[c].resetExponent = 0 ∨ -(2 ^ s.tables.channel[c].resetExponent : Int) ≤ d) → d + n ≤ 0 →
    let a := s.pairs[p]
    let found := a.window.find? fun e => e.key == (c, q, FrameKind.data)
    (∀ e, found = some e → e.line ≠ r.line → s.handleRecord p r = { s with pairs := s.pairs.set p { a with
      window := a.window.erase e
      lag := a.lag.sample (lagSample p e r)
      counters := { a.counters with twins := satInc a.counters.twins } } }) ∧
    (∀ e, found = some e → e.line = r.line → s.handleRecord p r = { s with pairs := s.pairs.set p { a with
      lag := { a.lag with sameLineRepeats := satInc a.lag.sameLineRepeats }
      counters := { a.counters with sameLineRepeats := satInc a.counters.sameLineRepeats } } }) ∧
    (found = none → s.handleRecord p r = { s with pairs := s.pairs.set p { a with
      counters := { a.counters with late := satInc a.counters.late } } })

/-- A frame ahead of X: twin or repeat when the window has its key; else a conflict when it overlaps a held frame of the
channel; else, with gap wait 0, delivered with GAP_BEFORE and its gap counted lost, and with a gap wait and room in the
pool held, opening the gap with its timer when the channel was IN_STEP (R77, R83 to R85, R101). A held frame is placed
before the first held frame of its channel with a greater start offset, or at the tail (R100). -/
def Obligations.AheadFrameIsDiscardedGivenUpOrHeld : Prop :=
  (∀ (s : State) (p : PairId) (r : FrameRecord) (c : ChannelId) (q n x : Nat),
      s.tables.classify p r.bytes = .listed c q n → n ≠ 0 → s.channels[c].sequence.expected = some x →
      let w := 8 * s.tables.profile[p].sequenceWidth
      let d := offset w q x
      let a := s.pairs[p]
      let f : ListedFrame := ⟨r, c, q, n⟩
      let found := a.window.find? fun e => e.key == (c, q, FrameKind.data)
      let overlapping : Prop := ∃ h ∈ a.pool, h.channel = c ∧ offset w h.s x < d + n ∧ d < offset w h.s x + h.n
      0 < d →
      (∀ e, found = some e → e.line ≠ r.line → s.handleRecord p r = { s with pairs := s.pairs.set p { a with
        window := a.window.erase e
        lag := a.lag.sample (lagSample p e r)
        counters := { a.counters with twins := satInc a.counters.twins } } }) ∧
      (∀ e, found = some e → e.line = r.line → s.handleRecord p r = { s with pairs := s.pairs.set p { a with
        lag := { a.lag with sameLineRepeats := satInc a.lag.sameLineRepeats }
        counters := { a.counters with sameLineRepeats := satInc a.counters.sameLineRepeats } } }) ∧
      (found = none → overlapping → s.handleRecord p r = { s with pairs := s.pairs.set p { a with
        counters := { a.counters with conflicts := satInc a.counters.conflicts } } }) ∧
      (found = none → ¬overlapping → s.tables.channel[c].gapWait = 0 →
        let given : State := s.deliver p ⟨r, some ⟨c, q, n⟩, min d.toNat 65535, { gapBefore := true }⟩
        let k := given.pairs[p].counters
        s.handleRecord p r = (State.raise { given with
          channels := s.channels.set c { s.channels[c] with
            sequence := s.channels[c].sequence.withExpected ((q + n) % 2 ^ w)
            lostGaps := satInc s.channels[c].lostGaps
            lostMessages := satAdd s.channels[c].lostMessages d.toNat }
          pairs := given.pairs.set p { given.pairs[p] with counters := { k with
            lostGaps := satInc k.lostGaps, lostMessages := satAdd k.lostMessages d.toNat } } }
          (sourceGapLost p)).insertTwin p f .data) ∧
      (found = none → ¬overlapping → s.tables.channel[c].gapWait ≠ 0 → a.pool.length < 128 →
        s.channels[c].sequence = .inStep x → s.handleRecord p r = State.insertTwin { s with
          pairs := s.pairs.set p { a with pool := insertHeld w x f a.pool }
          channels := s.channels.set c { s.channels[c] with
            gapOpenTick := s.tick
            sequence := .gapOpen x (s.tick + s.tables.channel[c].gapWait * 400) } } p f .data) ∧
      ∀ e, found = none → ¬overlapping → s.tables.channel[c].gapWait ≠ 0 → a.pool.length < 128 →
        s.channels[c].sequence = .gapOpen x e → s.handleRecord p r = State.insertTwin { s with
          pairs := s.pairs.set p { a with pool := insertHeld w x f a.pool } } p f .data) ∧
  ∀ (w x : Nat) (f : ListedFrame) (pool : List ListedFrame), ∃ before after, pool = before ++ after ∧
    insertHeld w x f pool = before ++ f :: after ∧
    (∀ g ∈ before, g.channel = f.channel → offset w g.s x ≤ offset w f.s x) ∧
    ∀ g ∈ after.head?, g.channel = f.channel ∧ offset w f.s x < offset w g.s x

/-- The release loop stops with no frame of the channel held and the channel not GAP_OPEN, or with a lowest held frame
that starts beyond X; it takes frames out of the pool and puts none in. One turn of it discards a superseded lowest
frame, or delivers one that X has reached, with RELEASED, and OVERLAP when it starts behind X, and sets X to its end
(R92).
A forced expiry is the expiry of the held channel with the smallest gap-open tick, the lower number between equal ticks,
with FORCED_RELEASE raised and counted (R110, R111); when the last LIVE line of a pair leaves LIVE the channels are
released whole in that same order, by expiry steps, until the pair holds nothing (R113); and after a forced expiry of a
full pool the arriving frame is examined again and never finds the pool full a second time (R112). -/
def Obligations.ReleaseStopsAtGapsOrEmpties : Prop :=
  (∀ (s : State) (p : PairId) (c : ChannelId),
      ((lowestHeld (s.release p c).pairs[p].pool c = none ∧ ∀ x e, (s.release p c).channels[c].sequence ≠ .gapOpen x e) ∨
        ∃ f, lowestHeld (s.release p c).pairs[p].pool c = some f ∧
          0 < offset (s.width p) f.s ((s.release p c).expectedOf c)) ∧
      (s.release p c).pairs[p].pool.Sublist s.pairs[p].pool ∧
      (s.release p c).lines = s.lines ∧ (s.release p c).tables = s.tables ∧ (s.release p c).tick = s.tick ∧
      (∀ p', p' ≠ p → (s.release p c).pairs[p'] = s.pairs[p']) ∧
      (∀ c', c' ≠ c → (s.release p c).channels[c'] = s.channels[c']) ∧
      ((∀ f ∈ s.pairs[p].pool, f.channel ≠ c) → s.drain p c = s ∧ s.release p c = { s with
        channels := s.channels.set c { s.channels[c] with
          sequence := match s.channels[c].sequence with | .gapOpen x _ => .inStep x | q => q } }) ∧
      ∀ before f after, s.pairs[p].pool = before ++ f :: after → f.channel = c → (∀ g ∈ before, g.channel ≠ c) →
        let a := s.pairs[p]
        let start := offset (s.width p) f.s (s.expectedOf c)
        let given : State := State.deliver { s with pairs := s.pairs.set p { a with pool := before ++ after } } p
          ⟨f.record, some ⟨c, f.s, f.n⟩, 0, { released := true, overlap := decide (start < 0) }⟩
        (start + f.n ≤ 0 → s.release p c = State.release { s with pairs := s.pairs.set p { a with
          pool := before ++ after
          counters := { a.counters with superseded := satInc a.counters.superseded } } } p c) ∧
        (0 < start + f.n → start ≤ 0 → s.release p c = State.release { given with
          channels := s.channels.set c { s.channels[c] with
            sequence := s.channels[c].sequence.withExpected ((f.s + f.n) % 2 ^ s.width p) } } p c) ∧
        (0 < start → s.release p c = s) ∧
        s.drain p c = (s.expiryStep p c).drain p c) ∧
  (∀ (s : State) (p : PairId),
      (s.releaseAll p).pairs[p].pool = [] ∧
      (∀ c, (∃ f ∈ s.pairs[p].pool, f.channel = c) →
        (∀ g ∈ s.pairs[p].pool, g.channel ≠ c → s.channels[c].gapOpenTick < s.channels[g.channel].gapOpenTick ∨
          (s.channels[c].gapOpenTick = s.channels[g.channel].gapOpenTick ∧ c < g.channel)) →
        let t := s.expireGap p c
        let k := t.pairs[p].counters
        s.forceExpiry p = State.raise { t with pairs := t.pairs.set p { t.pairs[p] with
          counters := { k with forcedReleases := satInc k.forcedReleases } } } (sourceForcedRelease p) ∧
        s.releaseAll p = (s.drain p c).releaseAll p) ∧
      (s.pairs[p].pool.length = 128 → (s.forceExpiry p).pairs[p].pool.length < 128 ∧
        ∀ f : ListedFrame, s.examineData p f = none →
          ∃ t, (s.forceExpiry p).examineData p f = some t ∧ s.dataFrame p f = t))


/-- The expiry of a running gap timer whose tick is reached delivers the lowest held frame with RELEASED and GAP_BEFORE
and its gap size, counts the gap lost, raises GAP_LOST, advances X to the frame's end and runs the release loop. With
frames of the channel still held, the gap-open tick becomes the present tick and the timer runs a full gap wait from it;
with none held the channel is IN_STEP, its gap-open tick kept (R103 to R105, R92). Before that tick nothing expires. -/
def Obligations.GapTimerExpires : Prop :=
  ∀ (s : State) (p : PairId) (c : ChannelId) (x expiry : Nat), s.clock = .running →
    s.tables.channel[c].enabled = true → s.tables.channel[c].pair = p → s.channels[c].sequence = .gapOpen x expiry →
    (s.tick < expiry → exec (.gapTimerExpiry c) s = .next s) ∧
    ∀ f before after, s.pairs[p].pool = before ++ f :: after → f.channel = c → (∀ g ∈ before, g.channel ≠ c) →
      let width := 8 * s.tables.profile[p].sequenceWidth
      let gap := (offset width f.s x).toNat
      let given : State := State.deliver
        { s with pairs := s.pairs.set p { s.pairs[p] with pool := before ++ after } } p
        ⟨f.record, some ⟨c, f.s, f.n⟩, min gap 65535, { gapBefore := true, released := true }⟩
      let k := given.pairs[p].counters
      let advanced (q : SequenceState) : State := State.raise { given with
        pairs := given.pairs.set p { given.pairs[p] with counters := { k with
          lostGaps := satInc k.lostGaps, lostMessages := satAdd k.lostMessages gap } }
        channels := s.channels.set c { s.channels[c] with
          sequence := q
          lostGaps := satInc s.channels[c].lostGaps
          lostMessages := satAdd s.channels[c].lostMessages gap } } (sourceGapLost p)
      let t := (advanced (.gapOpen ((f.s + f.n) % 2 ^ width) expiry)).release p c
      let restarted : State := { t with channels := t.channels.set c { t.channels[c] with
        gapOpenTick := s.tick
        sequence := .gapOpen (t.expectedOf c) (s.tick + s.tables.channel[c].gapWait * 400) } }
      s.expiryStep p c = t ∧
      ((∃ g ∈ t.pairs[p].pool, g.channel = c) → s.expireGap p c = restarted ∧
        (expiry ≤ s.tick → exec (.gapTimerExpiry c) s = .next restarted.settle)) ∧
      ((∀ g ∈ t.pairs[p].pool, g.channel ≠ c) → s.expireGap p c = t ∧
        (expiry ≤ s.tick → exec (.gapTimerExpiry c) s = .next t.settle)) ∧
      ((∀ g ∈ before ++ after, g.channel ≠ c) → t = advanced (.inStep ((f.s + f.n) % 2 ^ width)))

/-- A heartbeat is looked up with kind BEAT in every state; one not found is delivered with HEARTBEAT and inserted: it
opens an UNSEEN channel at X = s, and ahead of X it carries GAP_BEFORE and the gap count and leaves X (R86, R87). -/
def Obligations.HeartbeatNeverMovesX : Prop :=
  ∀ (s : State) (p : PairId) (r : FrameRecord) (c : ChannelId) (q : Nat),
    s.tables.classify p r.bytes = .listed c q 0 →
    let a := s.pairs[p]
    let found := a.window.find? fun e => e.key == (c, q, FrameKind.beat)
    (∀ e, found = some e → e.line ≠ r.line → s.handleRecord p r = { s with pairs := s.pairs.set p { a with
      window := a.window.erase e
      lag := a.lag.sample (lagSample p e r)
      counters := { a.counters with twins := satInc a.counters.twins } } }) ∧
    (∀ e, found = some e → e.line = r.line → s.handleRecord p r = { s with pairs := s.pairs.set p { a with
      lag := { a.lag with sameLineRepeats := satInc a.lag.sameLineRepeats }
      counters := { a.counters with sameLineRepeats := satInc a.counters.sameLineRepeats } } }) ∧
    (found = none → s.channels[c].sequence = .unseen → s.handleRecord p r = State.insertTwin
      { s.deliver p ⟨r, some ⟨c, q, 0⟩, 0, { heartbeat := true }⟩ with
        channels := s.channels.set c { s.channels[c] with sequence := .inStep q } } p ⟨r, c, q, 0⟩ .beat) ∧
    ∀ x, found = none → s.channels[c].sequence.expected = some x →
      let d := offset (8 * s.tables.profile[p].sequenceWidth) q x
      s.handleRecord p r = State.insertTwin (s.deliver p ⟨r, some ⟨c, q, 0⟩, min d.toNat 65535,
        { heartbeat := true, gapBefore := decide (0 < d) }⟩) p ⟨r, c, q, 0⟩ .beat

/-- An insertion puts the entry at the tail: an entry with its key is replaced, else at 64 entries the head is evicted,
and either is counted single-sided (R120, R123). A twin's lag sample is the B-side stamp less the A-side stamp whichever
came first, held to 64 bits signed, and moves the statistics by its sign (R124 to R126). -/
def Obligations.TwinWindowAndLag : Prop :=
  ∀ (a : PairArbiter) (p : PairId) (e : TwinEntry) (r : FrameRecord),
    (∀ before old after, a.window = before ++ old :: after → old.key = e.key → (∀ g ∈ before, g.key ≠ e.key) →
      a.insertTwin e = { a with
        window := before ++ after ++ [e], lag := { a.lag with singleSided := satInc a.lag.singleSided } }) ∧
    ((∀ g ∈ a.window, g.key ≠ e.key) → a.window.length < 64 → a.insertTwin e = { a with window := a.window ++ [e] }) ∧
    (∀ head rest, (∀ g ∈ a.window, g.key ≠ e.key) → a.window = head :: rest → 64 ≤ a.window.length →
      a.insertTwin e = { a with
        window := rest ++ [e], lag := { a.lag with singleSided := satInc a.lag.singleSided } }) ∧
    (e.line = sideA p → lagSample p e r = max (-(2 ^ 63)) (min ((r.stamp : Int) - e.stamp) (2 ^ 63 - 1))) ∧
    (e.line = sideB p → lagSample p e r = max (-(2 ^ 63)) (min ((e.stamp : Int) - r.stamp) (2 ^ 63 - 1))) ∧
    ∀ v : Int,
      let g := a.lag.sample v
      g.samples = min (a.lag.samples + 1) 4294967295 ∧
      g.aFirst = (if 0 < v then min (a.lag.aFirst + 1) 4294967295 else a.lag.aFirst) ∧
      g.bFirst = (if v < 0 then min (a.lag.bFirst + 1) 4294967295 else a.lag.bFirst) ∧
      g.ties = (if v = 0 then min (a.lag.ties + 1) 4294967295 else a.lag.ties) ∧
      g.lastLag = v ∧ g.lagSum = max (-(2 ^ 63)) (min (a.lag.lagSum + v) (2 ^ 63 - 1)) ∧
      (a.lag.samples = 0 → g.minLag = v ∧ g.maxLag = v) ∧
      (a.lag.samples ≠ 0 → g.minLag = min v a.lag.minLag ∧ g.maxLag = max v a.lag.maxLag) ∧
      g.singleSided = a.lag.singleSided ∧ g.sameLineRepeats = a.lag.sameLineRepeats

/-! ## Delivery lines (chapter 8) -/

/-- Nothing is chosen while the transmitter is busy or no group holds a frame; else the first group of the line's order
that holds one is served, and its frame leaves its queue or slot and is sent when the link is UP, discarded when it is
DOWN: the head of the pair's queue with its trailer, the head of the reply queue, or the notice slot, whose choice starts
the spacing timer (R132, R136, R137, R139, R168). REPLY holds a frame while the line's reply queue is not empty, NOTICE
while the slot is full and the line is the notice line (section 8.3).
Within the FEED group the fixed order takes the lowest-numbered pair that holds a frame, and the rotating order the
first one after the last pair served, counted modulo 4 (R138). -/
def Obligations.OutputArbiterChooses : Prop :=
  (∀ (s : State) (d : DlineId),
      let x := s.deliveries[d]
      let go (kind : TransmitKind) (bytes : List Byte) : Transmitter :=
        if x.link = .up then .sending ⟨kind, bytes, if s.clock = .running then some (s.tick : Int) else none, true⟩
        else .discarding ⟨kind, bytes, if s.clock = .running then some (s.tick : Int) else none, true⟩
      (x.transmitter ≠ .idle → s.choose d = s) ∧
      ((∀ g, s.groupHolds d g = false) → s.choose d = s) ∧
      (∀ before g after, x.transmitter = .idle → groupOrder s.tables.delivery[d].groupOrder = before ++ g :: after →
        (∀ b ∈ before, s.groupHolds d b = false) → s.groupHolds d g = true →
        (g = .feed → ∃ p e rest, s.feedPair d = some p ∧ s.pairs[p].queue = e :: rest ∧ s.choose d = { s with
          pairs := s.pairs.set p { s.pairs[p] with queue := rest }
          deliveries := s.deliveries.set d { x with lastPairServed := p, transmitter := go .feed e.wire } }) ∧
        (g = .reply → ∃ r rest, x.replies = r :: rest ∧
          let sent : State := { s with
            deliveries := s.deliveries.set d { x with replies := rest, transmitter := go .reply (builtWire r.frame) } }
          s.choose d = if r.startsRestart then sent.startRestart else sent) ∧
        (g = .notice → ∃ frame, s.notices.slot = some frame ∧ s.choose d = { s with
          notices := { s.notices with
            slot := none
            spacingStart := if s.tables.notice.spacing = 0 then none else some s.tick }
          deliveries := s.deliveries.set d { x with transmitter := go .notice (builtWire frame) } })) ∧
      (s.groupHolds d .feed = true ↔ s.feedPair d ≠ none) ∧ (s.groupHolds d .reply = true ↔ x.replies ≠ []) ∧
      (s.groupHolds d .notice = true ↔ s.tables.notice.noticeLine = d ∧ s.notices.slot ≠ none) ∧
      groupOrder 0 = [.feed, .reply, .notice] ∧ groupOrder 1 = [.feed, .notice, .reply] ∧
      groupOrder 2 = [.reply, .feed, .notice] ∧ groupOrder 3 = [.reply, .notice, .feed] ∧
      groupOrder 4 = [.notice, .feed, .reply] ∧ groupOrder 5 = [.notice, .reply, .feed]) ∧
  (∀ (s : State) (d : DlineId) (p : PairId),
      let ready (q : PairId) : Prop := s.tables.profile[q].deliveryLine = d ∧ s.pairs[q].queue ≠ []
      let last := s.deliveries[d].lastPairServed
      (s.tables.delivery[d].rotating = false →
        (s.feedPair d = some p ↔ ready p ∧ ∀ q, q < p → ¬ready q)) ∧
      (s.tables.delivery[d].rotating = true →
        (s.feedPair d = some p ↔ ready p ∧ ∀ q, (q.val + 3 - last.val) % 4 < (p.val + 3 - last.val) % 4 → ¬ready q)) ∧
      (s.feedPair d = none ↔ ∀ q, ¬ready q))


/-- A send completes by making the transmitter idle and counting the frame by its kind, a discard by counting it as
discarded at down line; one that a RESTART let run on is not counted (R132, R145). A transmission whose wire time, in
whole ticks (log 10), has not passed goes on. -/
def Obligations.TransmissionsComplete : Prop :=
  ∀ (s : State) (d : DlineId) (t : Transmission), s.clock ≠ .resetHeld →
    let x := s.deliveries[d]
    let done (k : DeliveryCounters) : State := ({ s with deliveries := s.deliveries.set d { x with
      transmitter := .idle, counters := if t.counted then k else x.counters } }).settle
    ((∀ start, t.started = some start → start + ((t.bytes.length + 20) * 8 / 25 : Nat) ≤ (s.tick : Int)) →
      (x.transmitter = .sending t → t.kind = .feed → exec (.transmitCompletion d) s =
        .next (done { x.counters with feedSent := satInc x.counters.feedSent })) ∧
      (x.transmitter = .sending t → t.kind = .reply → exec (.transmitCompletion d) s =
        .next (done { x.counters with repliesSent := satInc x.counters.repliesSent })) ∧
      (x.transmitter = .sending t → t.kind = .notice → exec (.transmitCompletion d) s =
        .next (done { x.counters with noticesSent := satInc x.counters.noticesSent })) ∧
      (x.transmitter = .discarding t → exec (.transmitCompletion d) s =
        .next (done { x.counters with discarded := satInc x.counters.discarded }))) ∧
    (∀ start, t.started = some start → (s.tick : Int) < start + ((t.bytes.length + 20) * 8 / 25 : Nat) →
      x.transmitter = .sending t ∨ x.transmitter = .discarding t → exec (.transmitCompletion d) s = .next s) ∧
    (x.transmitter = .idle → exec (.transmitCompletion d) s = .next s)

/-- A change of a delivery line's link state raises DELIVERY_LINK; DOWN discards the frame in reception and cuts a send,
which counts as discarded at down line; an idle transmitter and a discard stay; a repeated report does nothing (R131,
R141, R142). That the cut of a send that a RESTART let run on is counted too is the model's (log 11). -/
def Obligations.DeliveryLinkChanges : Prop :=
  ∀ (s : State) (d : DlineId), s.clock ≠ .resetHeld →
    let x := s.deliveries[d]
    let put (x' : DeliveryLine) : State :=
      (({ s with deliveries := s.deliveries.set d x' }).raise (sourceDeliveryLink d)).settle
    exec (.deliveryLinkChange d x.link) s = .next s ∧
    (x.link = .down → exec (.deliveryLinkChange d .up) s = .next (put { x with link := .up })) ∧
    (x.link = .up → (∀ t, x.transmitter ≠ .sending t) → exec (.deliveryLinkChange d .down) s =
      .next (put { x with link := .down, reception := none })) ∧
    ∀ t, x.link = .up → x.transmitter = .sending t → exec (.deliveryLinkChange d .down) s =
      .next (put { x with
        link := .down, reception := none, transmitter := .idle
        counters := { x.counters with discarded := satInc x.counters.discarded } })

/-- The receive filter: a frame that fails a test is counted foreign; a command is counted and appended to the inbox, and
the unit takes it when IDLE; at 4 commands it is dropped with COMMAND_DROPPED and no count; on a line that is DOWN no
frame is received (R142, R148). -/
def Obligations.ReceiveFilterKeepsCommands : Prop :=
  ∀ (s : State) (d : DlineId) (bytes : List Byte) (receiveError : Bool), s.clock ≠ .resetHeld →
    let x := s.deliveries[d]
    let mine : Prop := macAt bytes 0 = stationAddress s.strapLatch ∨ macAt bytes 0 = 0xFFFFFFFFFFFF
    let command : Prop := 64 ≤ bytes.length ∧ bytes.length ≤ 2048 ∧ receiveError = false ∧
      bytes.drop (bytes.length - 4) = fcs (bytes.take (bytes.length - 4)) ∧ slice bytes 12 2 = [0x88, 0xB5] ∧
      slice bytes 14 3 = [0x4F, 0x43, 0x01] ∧ mine
    (x.link = .down → exec (.deliveryFrameCompletion d bytes receiveError) s = .next s) ∧
    (x.link = .up → x.reception = none → ¬command → exec (.deliveryFrameCompletion d bytes receiveError) s =
      .next { s with deliveries := s.deliveries.set d { x with counters := { x.counters with
        foreign := satInc x.counters.foreign } } }) ∧
    (x.link = .up → x.reception = none → command → s.inbox.length < 4 →
      exec (.deliveryFrameCompletion d bytes receiveError) s = .next (State.settleUnit { s with
        deliveries := s.deliveries.set d { x with counters := { x.counters with
          commandsAccepted := satInc x.counters.commandsAccepted } }
        inbox := s.inbox ++ ([⟨bytes.take (bytes.length - 4), d, macAt bytes 0 == 0xFFFFFFFFFFFF⟩] :
          List InboxCommand) })) ∧
    (x.link = .up → x.reception = none → command → 4 ≤ s.inbox.length →
      exec (.deliveryFrameCompletion d bytes receiveError) s = .next (s.raise 50).settle)

/-- A feed frame leaves as its bytes without the received FCS, 24 trailer bytes and a new FCS, 24 bytes longer than it
came; the trailer's fields stand at the places of R173 (R133, R134). -/
def Obligations.FeedFrameCarriesTrailer : Prop :=
  ∀ e : DeliveryEntry, 4 ≤ e.record.bytes.length →
    let n := e.record.bytes.length - 4
    e.wire.length = e.record.bytes.length + 24 ∧ e.wire.take n = e.record.bytes.take n ∧
    fcsMatches e.wire = true ∧
    slice e.wire n 2 = [0x4F, 0x54] ∧ numAt e.wire (n + 2) 1 = e.record.line.val ∧
    numAt e.wire (n + 3) 1 = min e.record.quality 255 ∧ slice e.wire (n + 4) 1 = [e.flags.byte] ∧
    numAt e.wire (n + 5) 1 = ((e.listing.map fun g => g.channel.val).getD 0) ∧
    numAt e.wire (n + 6) 2 = min e.gapCount 65535 ∧ numAt e.wire (n + 8) 6 = stampSeconds e.record.stamp ∧
    numAt e.wire (n + 14) 4 = stampNs e.record.stamp ∧ numAt e.wire (n + 18) 1 = stampSub e.record.stamp ∧
    numAt e.wire (n + 19) 1 = min ((e.listing.map fun g => g.n).getD 0) 255 ∧
    numAt e.wire (n + 20) 4 = ((e.listing.map fun g => g.s).getD 0) % 2 ^ 32 ∧
    e.flags.byte.getLsbD 0 = e.flags.gapBefore ∧ e.flags.byte.getLsbD 1 = e.flags.overlap ∧
    e.flags.byte.getLsbD 2 = e.flags.seqReset ∧ e.flags.byte.getLsbD 3 = e.flags.released ∧
    e.flags.byte.getLsbD 4 = e.flags.unlisted ∧ e.flags.byte.getLsbD 5 = e.flags.undecodable ∧
    e.flags.byte.getLsbD 6 = e.flags.dropBefore ∧ e.flags.byte.getLsbD 7 = e.flags.heartbeat

/-! ## Notices (chapter 10) -/

/-- A raise adds one to its source's repeat count, up to 255, and changes nothing else (R164); a build takes the unmasked
level of smallest rank, the smaller number between equals, that has a pending source, and leaves in the slot one frame
listing every pending source of that level with its count, those counts cleared (R166, R167).
The spacing timer expires spacing × 400 ticks after its start and stops, and a build may follow; a stopped timer does
not expire (R168, R169). What follows an event is a build, a choice of D0, a choice of D1 and a build, in the model's
order (log 6); in a quiet part, with notices off and both transmitters busy, nothing follows. -/
def Obligations.NoticesAreRaisedBuiltAndSpaced : Prop :=
  (∀ s : State,
      (∀ id : Fin 52, s.raise id = { s with notices := { s.notices with
        counts := s.notices.counts.set id (min (s.notices.counts[id] + 1) 255) } }) ∧
      (s.tables.notice.globalEnable = false ∨ s.notices.slot ≠ none ∨ s.notices.spacingStart ≠ none ∨
        (∀ id : Fin 52, s.notices.counts[id] ≠ 0 → s.tables.notice.masks[sourceLevel id] = true) → s.build = s) ∧
      ∀ level : Fin 4, s.tables.notice.globalEnable = true → s.notices.slot = none → s.notices.spacingStart = none →
        let ready (v : Fin 4) : Prop := s.tables.notice.masks[v] = false ∧ ∃ id, sourceLevel id = v ∧ s.notices.counts[id] ≠ 0
        let rank (v : Fin 4) : Nat := s.tables.notice.ranks[v]
        ready level → (∀ v, ready v → v ≠ level → rank level < rank v ∨ (rank level = rank v ∧ level < v)) →
        let ids := (List.finRange 52).filter fun id => sourceLevel id = level ∧ s.notices.counts[id] ≠ 0
        let t := s.build
        t = { s with notices := t.notices } ∧ t.notices.spacingStart = none ∧
        (∀ id : Fin 52, t.notices.counts[id] = if sourceLevel id = level then 0 else s.notices.counts[id]) ∧
        t.notices.slot = some (macField s.tables.notice.destination ++ macField (stationAddress s.strapLatch) ++
          [0x88, 0xB5, 0x4F, 0x43, 3, BitVec.ofNat 8 level.val, 0, 0, BitVec.ofNat 8 ids.length] ++
          ids.flatMap fun id => [BitVec.ofNat 8 id.val, BitVec.ofNat 8 (min s.notices.counts[id] 255)])) ∧
  (∀ s : State,
      (∀ t, s.clock = .running → s.notices.spacingStart = some t → t + s.tables.notice.spacing * 400 ≤ s.tick →
        exec .spacingTimerExpiry s = .next ({ s with notices := { s.notices with spacingStart := none } }).settle) ∧
      (s.notices.spacingStart = none → exec .spacingTimerExpiry s = .next s) ∧
      s.settle = ((s.build.choose 0).choose 1).build ∧ (s.Quiet → s.settle = s))


/-! ## Management requests (chapter 9) -/

/-- IDENTIFY, READ_TIME and READ_REFERENCE complete with DONE and the figures of their rules, in the layout of R175, read
at the completion (R155, R7, R35). -/
def Obligations.IdentifyAndTimeReads : Prop :=
  ∀ (s : State) (c : CommandInFlight),
    (s.Serving c .identify → ∃ data, exec .identify s = .next (s.afterRequest c .done data) ∧ data.length = 10 ∧
      numAt data 0 2 = 0x8400 ∧ numAt data 2 1 = 1 ∧ numAt data 3 1 = s.strapLatch.toNat ∧
      numAt data 4 6 = 0x024F434C8400 + s.strapLatch.toNat % 16) ∧
    (s.Serving c .readTime →
      let t := s.timeBase
      let stamp := t.stamp (s.tick * 16) 0
      ∃ data, exec .readTime s = .next (s.afterRequest c .done data) ∧ data.length = 39 ∧
        numAt data 0 1 = (match t.state with
          | .unset => 0
          | .free => 1
          | .acquiring => 2
          | .locked => 3
          | .holdover => if t.holdoverExpired then 5 else 4) ∧
        numAt data 1 1 = (match s.selected with | none => 255 | some r => r.val) ∧
        numAt data 2 6 = stampSeconds stamp ∧ numAt data 8 4 = stampNs stamp ∧ numAt data 12 1 = stampSub stamp ∧
        numAt data 13 8 = min t.current.rate.toNat (2 ^ 64 - 1) ∧
        signedAt data 21 8 = max (-(2 ^ 63)) (min t.lastError (2 ^ 63 - 1)) ∧
        numAt data 29 1 = min t.lockRun 255 ∧ numAt data 30 1 = min t.outlierRun 255 ∧
        numAt data 31 4 = (if t.state = TimeBaseState.holdover then
          min ((s.tick - t.holdoverEntryTick) / 400000000) (2 ^ 32 - 1) else 0) ∧
        numAt data 35 4 = min t.stepCount (2 ^ 32 - 1)) ∧
    ∀ r, s.Serving c (.readReference r) →
      let m := s.monitors[r]
      ∃ data, exec .readReference s = .next (s.afterRequest c .done data) ∧ data.length = 24 ∧
        numAt data 0 1 = (match m.state with | .absent => 0 | .qualifying => 1 | .good => 2) ∧
        numAt data 1 1 = min m.qualifyCount 255 ∧ numAt data 2 6 = min m.lastLabelSeconds (2 ^ 48 - 1) ∧
        [numAt data 8 4, numAt data 12 4, numAt data 16 4, numAt data 20 4] =
          [m.goodPulses, m.badPulses, m.misses, m.badLabels].map (min · (2 ^ 32 - 1))

/-- READ_COUNTERS completes with DONE and the figures of its scope as they stood before the clear; with clear set the
counters of that scope are then 0 and nothing else of it changes (R57, R93, R144). -/
def Obligations.CounterReads : Prop :=
  ∀ (s : State) (c : CommandInFlight) (clear : Bool),
    (∀ l, s.Serving c (.readCountersLine l clear) →
      let f := s.lines[l]
      let k := f.counters
      ∃ data, exec .readCountersLine s = .next (State.afterRequest (if clear then { s with
          lines := s.lines.set l { f with counters := ⟨0, 0, 0, 0, 0, 0, 0, 0⟩ } } else s) c .done data) ∧
        data.length = 48 ∧
        ((List.range 8).map fun i => numAt data (4 * i) 4) = [k.goodFrames, k.fcsErrors, k.runts, k.oversize, k.overflow,
          k.truncated, k.flushed, k.linkFlaps].map (min · (2 ^ 32 - 1)) ∧
        numAt data 32 6 = stampSeconds f.lastArrival.stamp ∧ numAt data 38 4 = stampNs f.lastArrival.stamp ∧
        numAt data 42 1 = stampSub f.lastArrival.stamp ∧ numAt data 43 1 = min f.lastArrival.quality 255 ∧
        numAt data 44 1 = (match f.link with | .down => 0 | .up => 1) ∧
        numAt data 45 1 = (match f.mode with | .off => 0 | .monitor => 1 | .live => 2) ∧
        numAt data 46 1 = f.silent.toNat ∧ numAt data 47 1 = min f.buffer.length 255) ∧
    (∀ p, s.Serving c (.readCountersPair p clear) →
      let a := s.pairs[p]
      let k := a.counters
      ∃ data, exec .readCountersPair s = .next (State.afterRequest (if clear then { s with
          pairs := s.pairs.set p { a with counters := ⟨0, 0, 0, 0, 0, 0, 0, 0, 0, 0, 0, 0, 0, 0, 0⟩ } } else s) c .done
          data) ∧
        data.length = 64 ∧
        ((List.range 15).map fun i => numAt data (4 * i) 4) = [k.taken, k.delivered, k.twins, k.sameLineRepeats, k.late,
          k.conflicts, k.superseded, k.unlistedDelivered, k.unlistedDropped, k.undecodable, k.lostGaps, k.lostMessages,
          k.forcedReleases, k.deliveryDrops, k.flushed].map (min · (2 ^ 32 - 1)) ∧
        numAt data 60 1 = min a.queue.length 255 ∧ numAt data 61 1 = min a.pool.length 255 ∧
        numAt data 62 1 = min a.window.length 255 ∧ numAt data 63 1 = a.dropBefore.toNat) ∧
    ∀ d, s.Serving c (.readCountersDelivery d clear) →
      let x := s.deliveries[d]
      let k := x.counters
      ∃ data, exec .readCountersDelivery s = .next (State.afterRequest (if clear then { s with
          deliveries := s.deliveries.set d { x with counters := ⟨0, 0, 0, 0, 0, 0⟩ } } else s) c .done data) ∧
        data.length = 26 ∧
        ((List.range 6).map fun i => numAt data (4 * i) 4) = [k.feedSent, k.repliesSent, k.noticesSent, k.discarded,
          k.foreign, k.commandsAccepted].map (min · (2 ^ 32 - 1)) ∧
        numAt data 24 1 = (match x.link with | .down => 0 | .up => 1) ∧ numAt data 25 1 = min x.replies.length 255

/-- READ_CHANNELS, READ_LAG and READ_NOTICES complete with DONE and their figures; READ_LAG with clear empties the
statistics and READ_NOTICES with clear the sources, after they are read (R94, R128, R129, R170). That X is reported whole,
even one of 2^32 or more left from before the width of its pair was made 4 bytes, is the model's choice (log 20). -/
def Obligations.ChannelLagAndNoticeReads : Prop :=
  ∀ (s : State) (c : CommandInFlight),
    (∀ start count, start + count ≤ 256 → s.Serving c (.readChannels start count) →
      ∃ data, exec .readChannels s = .next (s.afterRequest c .done data) ∧ data.length = 19 * count ∧
        ∀ (i : Nat) (ch : ChannelId), i < count → ch.val = start + i →
          let x := s.channels[ch]
          numAt data (19 * i) 1 = ch.val ∧
          numAt data (19 * i + 1) 1 =
            (match x.sequence with | .unseen => 0 | .inStep _ => 1 | .gapOpen _ _ => 2) ∧
          numAt data (19 * i + 2) 8 = min (x.sequence.expected.getD 0) (2 ^ 64 - 1) ∧
          numAt data (19 * i + 10) 1 = (if s.tables.channel[ch].enabled then
            min ((s.pairs[s.tables.channel[ch].pair].pool.filter (·.channel == ch)).length) 255 else 0) ∧
          numAt data (19 * i + 11) 4 = min x.lostGaps (2 ^ 32 - 1) ∧
          numAt data (19 * i + 15) 4 = min x.lostMessages (2 ^ 32 - 1)) ∧
    (∀ p clear, s.Serving c (.readLag p clear) →
      let g := s.pairs[p].lag
      ∃ data, exec .readLag s = .next (State.afterRequest (if clear then { s with
          pairs := s.pairs.set p { s.pairs[p] with lag := ⟨0, 0, 0, 0, 0, 0, 0, 0, 0, 0⟩ } } else s) c .done data) ∧
        data.length = 56 ∧
        ((List.range 4).map fun i => numAt data (4 * i) 4) =
          [g.samples, g.aFirst, g.bFirst, g.ties].map (min · (2 ^ 32 - 1)) ∧
        ((List.range 4).map fun i => signedAt data (16 + 8 * i) 8) =
          [g.minLag, g.maxLag, g.lagSum, g.lastLag].map (fun v => max (-(2 ^ 63)) (min v (2 ^ 63 - 1))) ∧
        numAt data 48 4 = min g.singleSided (2 ^ 32 - 1) ∧ numAt data 52 4 = min g.sameLineRepeats (2 ^ 32 - 1)) ∧
    ∀ clear, s.Serving c (.readNotices clear) →
      ∃ data, exec .readNotices s = .next (State.afterRequest (if clear then { s with
          notices := { s.notices with counts := Vector.replicate 52 0 } } else s) c .done data) ∧
        data.length = 104 ∧ ∀ id : Fin 52,
          numAt data (2 * id.val) 1 = (if 0 < s.notices.counts[id] then 1 else 0) ∧
          numAt data (2 * id.val + 1) 1 = min s.notices.counts[id] 255

/-- TABLE_READ completes with DONE and returns the entries start to start + count − 1 as stored, each in its layout; and
an entry an accepted write carried in range reads back as it was written (R157, R176). -/
def Obligations.TableReadReturnsEntries : Prop :=
  (∀ (s : State) (c : CommandInFlight) (table : TableId) (start count : Nat), start + count ≤ table.entries →
    s.Serving c (.tableRead table start count) →
    ∃ data, exec .tableRead s = .next (s.afterRequest c .done data) ∧ data.length = count * table.entrySize ∧
      ∀ i, i < count →
        slice data (i * table.entrySize) table.entrySize = s.tables.entryBytes table (start + i)) ∧
  (∀ bs : List Byte, bs.length = 8 → (LineEntry.ofBytes bs).wasClamped bs = false →
    (LineEntry.ofBytes bs).layout = bs) ∧
  (∀ bs : List Byte, ∀ e, bs.length = 14 → ProfileEntry.ofBytes bs = some e → e.layout = bs) ∧
  (∀ bs : List Byte, ∀ e, bs.length = 11 → ChannelEntry.ofBytes bs = some e → e.resetExponent = numAt bs 10 1 →
    e.layout = bs) ∧
  (∀ bs : List Byte, ∀ e, bs.length = 8 → ReferenceEntry.ofBytes bs = some e → e.wasClamped bs = false →
    e.layout = bs) ∧
  (∀ bs : List Byte, ∀ e, bs.length = 16 → TimebaseEntry.ofBytes bs = some e → e.wasClamped bs = false →
    e.layout = bs) ∧
  (∀ bs : List Byte, ∀ e, bs.length = 18 → NoticeEntry.ofBytes bs = some e → noticeClamped bs = false →
    e.layout = bs) ∧
  ∀ bs : List Byte, ∀ e, bs.length = 2 → DeliveryTableEntry.ofBytes bs = some e → e.layout = bs

/-- A LINE entry is stored with each field held to its range; a changed limit moves, stops or starts the silence timer,
and a point already reached is its expiry at the write; an index above 7 is refused (R56, R158). -/
def Obligations.LineEntryWrites : Prop :=
  ∀ (s : State) (c : CommandInFlight) (entries : List (List Byte)) (i : Nat) (bs : List Byte),
    s.WritingEntry c .line entries i bs →
    let limit := min (numAt bs 4 4) 65535
    let entry : LineEntry := ⟨min (numAt bs 0 4) 16777215, limit⟩
    let clamped : Bool := decide (16777215 < numAt bs 0 4 ∨ 65535 < numAt bs 4 4)
    (8 ≤ i → exec .lineEntryWrite s = .next (s.refuseEntry c .badArgument)) ∧
    ∀ l : LineId, l.val = i →
      let f := s.lines[l]
      let stored (f' : FeedLine) : State :=
        { s with tables := { s.tables with line := s.tables.line.set l entry }, lines := s.lines.set l f' }
      let accept (t : State) : Host.Outcome State Fault Refusal := .next (t.acceptEntry c entries.length clamped)
      (∀ t, f.silenceStart = some t → limit ≠ 0 → s.tick < t + limit * 400000 →
        exec .lineEntryWrite s = accept (stored f)) ∧
      (∀ t, f.silenceStart = some t → limit ≠ 0 → t + limit * 400000 ≤ s.tick → exec .lineEntryWrite s =
        accept ((stored { f with silenceStart := none, silent := true }).raise (sourceSilent l))) ∧
      (f.silenceStart ≠ none → limit = 0 → exec .lineEntryWrite s = accept (stored { f with silenceStart := none })) ∧
      (f.silenceStart = none → f.silent = false → limit ≠ 0 → f.link = .up → f.mode ≠ .off →
        exec .lineEntryWrite s = accept (stored { f with silenceStart := some s.tick })) ∧
      (f.silenceStart = none → f.silent = true → limit ≠ 0 → exec .lineEntryWrite s = accept (stored f)) ∧
      (f.silenceStart = none → f.silent = true → limit = 0 →
        exec .lineEntryWrite s = accept (stored { f with silent := false })) ∧
      (f.silenceStart = none → f.silent = false → (limit = 0 ∨ f.link = .down ∨ f.mode = .off) →
        exec .lineEntryWrite s = accept (stored f))

/-- A PROFILE entry is refused with BUSY while a line of its pair is LIVE and with BAD_ARGUMENT for an index above 3 or,
the gate passed, a field outside its values; else every field is replaced, none clamped (R67, R68, R158). -/
def Obligations.ProfileEntryWrites : Prop :=
  ∀ (s : State) (c : CommandInFlight) (entries : List (List Byte)) (i : Nat) (bs : List Byte),
    s.WritingEntry c .profile entries i bs →
    let good : Prop := numAt bs 0 1 ≤ 1 ∧ numAt bs 1 2 ≤ 2044 ∧ numAt bs 3 2 ≤ 2046 ∧ numAt bs 5 2 ≤ 2040 ∧
      (numAt bs 7 1 = 4 ∨ numAt bs 7 1 = 8) ∧ numAt bs 8 1 ≤ 1 ∧ numAt bs 9 2 ≤ 2046 ∧ numAt bs 11 1 ≤ 2 ∧
      numAt bs 12 1 ≤ 1 ∧ numAt bs 13 1 ≤ 1
    let live (p : PairId) : Prop := s.lines[sideA p].mode = .live ∨ s.lines[sideB p].mode = .live
    (4 ≤ i → exec .profileEntryWrite s = .next (s.refuseEntry c .badArgument)) ∧
    ∀ p : PairId, p.val = i →
      (live p → exec .profileEntryWrite s = .next (s.refuseEntry c .busy)) ∧
      (¬live p → ¬good → exec .profileEntryWrite s = .next (s.refuseEntry c .badArgument)) ∧
      (¬live p → good → exec .profileEntryWrite s = .next (State.acceptEntry { s with tables := { s.tables with
        profile := s.tables.profile.set p ⟨numAt bs 0 1 == 1, numAt bs 1 2, numAt bs 3 2, numAt bs 5 2, numAt bs 7 1,
          numAt bs 8 1 == 1, numAt bs 9 2, numAt bs 11 1, numAt bs 12 1 == 1,
          if numAt bs 13 1 = 0 then 0 else 1⟩ } } c entries.length false))

/-- A CHANNEL entry is refused in the order index, enabled and pair values, write gate, key of another entry of its pair;
else every field is replaced, the reset exponent held to 0 or 8..31, and the channel becomes UNSEEN with its figures 0
(R67, R69, R70, R158). -/
def Obligations.ChannelEntryWrites : Prop :=
  ∀ (s : State) (c : CommandInFlight) (entries : List (List Byte)) (i : Nat) (bs : List Byte),
    s.WritingEntry c .channel entries i bs →
    let live (p : PairId) : Prop := s.lines[sideA p].mode = .live ∨ s.lines[sideB p].mode = .live
    let exponent := if numAt bs 10 1 = 0 then 0 else max 8 (min (numAt bs 10 1) 31)
    (256 ≤ i → exec .channelEntryWrite s = .next (s.refuseEntry c .badArgument)) ∧
    ∀ ch : ChannelId, ch.val = i →
      let old := s.tables.channel[ch]
      (1 < numAt bs 0 1 ∨ 3 < numAt bs 1 1 → exec .channelEntryWrite s = .next (s.refuseEntry c .badArgument)) ∧
      ∀ q : PairId, numAt bs 0 1 ≤ 1 → numAt bs 1 1 = q.val →
        let entry : ChannelEntry := ⟨numAt bs 0 1 == 1, q, macAt bs 2, numAt bs 8 2, exponent⟩
        let gate : Prop := (old.enabled = true ∧ live old.pair) ∨ (numAt bs 0 1 = 1 ∧ live q)
        let duplicate : Prop := numAt bs 0 1 = 1 ∧ ∃ o : ChannelId, o ≠ ch ∧ s.tables.channel[o].enabled = true ∧
          s.tables.channel[o].pair = q ∧ s.tables.channel[o].key = macAt bs 2
        (gate → exec .channelEntryWrite s = .next (s.refuseEntry c .busy)) ∧
        (¬gate → duplicate → exec .channelEntryWrite s = .next (s.refuseEntry c .badArgument)) ∧
        (¬gate → ¬duplicate → exec .channelEntryWrite s = .next (State.acceptEntry { s with
          tables := { s.tables with channel := s.tables.channel.set ch entry }
          channels := s.channels.set ch { s.channels[ch] with
            sequence := .unseen, lostGaps := 0, lostMessages := 0 } } c entries.length (exponent != numAt bs 10 1)))

/-- A REFERENCE entry is stored with its numbers held to their ranges; from on to off the monitor becomes ABSENT with its
slot, reference point and receiver cleared and a GOOD one is lost; from off to on the receiver hunts; unchanged, only a
pulse timeout whose point under the new tolerance is reached expires (R33, R34, R158). -/
def Obligations.ReferenceEntryWrites : Prop :=
  ∀ (s : State) (c : CommandInFlight) (entries : List (List Byte)) (i : Nat) (bs : List Byte),
    s.WritingEntry c .reference entries i bs →
    let tolerance := max 16 (min (numAt bs 6 2) 65535)
    let entry : ReferenceEntry :=
      ⟨numAt bs 0 1 == 1, min (numAt bs 1 4) 16777215, max 2 (min (numAt bs 5 1) 255), tolerance⟩
    let clamped : Bool := decide (16777215 < numAt bs 1 4 ∨ numAt bs 5 1 < 2 ∨ numAt bs 6 2 < 16)
    (2 ≤ i ∨ 1 < numAt bs 0 1 → exec .referenceEntryWrite s = .next (s.refuseEntry c .badArgument)) ∧
    ∀ r : RefId, r.val = i → numAt bs 0 1 ≤ 1 →
      let m := s.monitors[r]
      let was := s.tables.reference[r].enabled
      let stored (m' : Monitor) : State := { s with
        tables := { s.tables with reference := s.tables.reference.set r entry }, monitors := s.monitors.set r m' }
      let accept (t : State) : Host.Outcome State Fault Refusal := .next (t.acceptEntry c entries.length clamped)
      let gone : Monitor := { m with
        state := .absent, qualifyCount := 0, slot := none, refPoint := ⟨0, none⟩, receiver := .stopped }
      let missed : Monitor := { m with
        state := .absent, qualifyCount := 0, slot := none, refPoint := ⟨0, none⟩, misses := satInc m.misses }
      (was = true → numAt bs 0 1 = 0 → m.state ≠ .good → exec .referenceEntryWrite s = accept (stored gone)) ∧
      (was = true → numAt bs 0 1 = 0 → m.state = .good → exec .referenceEntryWrite s =
        accept (((stored gone).raise (sourceRefLost r)).selectorLeftGood r)) ∧
      (was = false → numAt bs 0 1 = 1 → exec .referenceEntryWrite s = accept (stored { m with receiver := .hunting })) ∧
      (was = (numAt bs 0 1 == 1) →
        (m.state = .absent ∨ s.tick < m.refPoint.capture / 16 + 400000000 + tolerance + 1) →
        exec .referenceEntryWrite s = accept (stored m)) ∧
      (was = (numAt bs 0 1 == 1) → m.refPoint.capture / 16 + 400000000 + tolerance + 1 ≤ s.tick →
        (m.state = .qualifying → exec .referenceEntryWrite s = accept (stored missed)) ∧
        (m.state = .good → exec .referenceEntryWrite s =
          accept (((stored missed).raise (sourceRefLost r)).selectorLeftGood r)))

/-- The TIMEBASE entry is stored with its numbers held to their ranges; in HOLDOVER a limit already reached is the expiry
at the write (R20, R23); a DELIVERY entry replaces both its fields (R143); other indices and values are refused (R158). -/
def Obligations.TimebaseAndDeliveryEntryWrites : Prop :=
  ∀ (s : State) (c : CommandInFlight) (entries : List (List Byte)) (i : Nat) (bs : List Byte),
    (s.WritingEntry c .timebase entries i bs →
      let limit := min (numAt bs 10 4) 65535
      let entry : TimebaseEntry := ⟨max 100 (min (numAt bs 0 4) 1000000), max 10 (min (numAt bs 4 4) 65535),
        max 1 (min (numAt bs 8 1) 15), min (numAt bs 9 1) 4, limit, if numAt bs 14 1 = 0 then 0 else 1,
        numAt bs 15 1 == 1⟩
      let clamped : Bool := decide (numAt bs 0 4 < 100 ∨ 1000000 < numAt bs 0 4 ∨ numAt bs 4 4 < 10 ∨
        65535 < numAt bs 4 4 ∨ numAt bs 8 1 < 1 ∨ 15 < numAt bs 8 1 ∨ 4 < numAt bs 9 1 ∨ 65535 < numAt bs 10 4)
      let stored : State := { s with tables := { s.tables with timebase := entry } }
      let due : Prop := s.timeBase.state = .holdover ∧ s.timeBase.holdoverExpired = false ∧ limit ≠ 0 ∧
        s.timeBase.holdoverEntryTick + limit * 400000000 ≤ s.tick
      (i ≠ 0 ∨ 1 < numAt bs 14 1 ∨ 1 < numAt bs 15 1 →
        exec .timebaseEntryWrite s = .next (s.refuseEntry c .badArgument)) ∧
      (i = 0 → numAt bs 14 1 ≤ 1 → numAt bs 15 1 ≤ 1 →
        (¬due → exec .timebaseEntryWrite s = .next (stored.acceptEntry c entries.length clamped)) ∧
        (due → exec .timebaseEntryWrite s = .next ((State.raise { stored with
          timeBase := { s.timeBase with holdoverExpired := true } } 2).acceptEntry c entries.length clamped)))) ∧
    (s.WritingEntry c .delivery entries i bs →
      (2 ≤ i ∨ 5 < numAt bs 0 1 ∨ 1 < numAt bs 1 1 →
        exec .deliveryEntryWrite s = .next (s.refuseEntry c .badArgument)) ∧
      ∀ (d : DlineId) (order : Fin 6), d.val = i → numAt bs 0 1 = order.val → numAt bs 1 1 ≤ 1 →
        exec .deliveryEntryWrite s = .next (State.acceptEntry { s with tables := { s.tables with
          delivery := s.tables.delivery.set d ⟨order, numAt bs 1 1 == 1⟩ } } c entries.length false))

/-- The NOTICE entry is stored with ranks held to 0..3; a running spacing timer expires at the write when the new spacing is
0 or its point is already reached; another index, enable, mask or line is refused (R165, R169, R158). -/
def Obligations.NoticeEntryWrites : Prop :=
  ∀ (s : State) (c : CommandInFlight) (entries : List (List Byte)) (i : Nat) (bs : List Byte),
    s.WritingEntry c .notice entries i bs →
    let good : Prop := i = 0 ∧ (∀ o, o < 5 → numAt bs o 1 ≤ 1) ∧ numAt bs 11 1 ≤ 1
    let rank (o : Nat) : Nat := min (numAt bs o 1) 3
    let entry : NoticeEntry := ⟨numAt bs 0 1 == 1,
      #v[numAt bs 1 1 == 1, numAt bs 2 1 == 1, numAt bs 3 1 == 1, numAt bs 4 1 == 1],
      #v[rank 5, rank 6, rank 7, rank 8], numAt bs 9 2, if numAt bs 11 1 = 0 then 0 else 1, macAt bs 12⟩
    let clamped : Bool := decide (3 < numAt bs 5 1 ∨ 3 < numAt bs 6 1 ∨ 3 < numAt bs 7 1 ∨ 3 < numAt bs 8 1)
    let stored : State := { s with tables := { s.tables with notice := entry } }
    (¬good → exec .noticeEntryWrite s = .next (s.refuseEntry c .badArgument)) ∧
    (good →
      (∀ t, s.notices.spacingStart = some t → (numAt bs 9 2 = 0 ∨ t + numAt bs 9 2 * 400 ≤ s.tick) →
        exec .noticeEntryWrite s = .next (State.acceptEntry { stored with
          notices := { s.notices with spacingStart := none } } c entries.length clamped)) ∧
      ((∀ t, s.notices.spacingStart = some t → numAt bs 9 2 ≠ 0 ∧ s.tick < t + numAt bs 9 2 * 400) →
        exec .noticeEntryWrite s = .next (stored.acceptEntry c entries.length clamped)))

/-- SET_LINE_MODE: BUSY for LIVE while the pair's profile is disabled; DONE and nothing for the mode the line is in; else
the mode changes with the effects of R43, the buffer flushed on leaving LIVE (R44) and the pair's holds released when no
line of it is LIVE any more (R42 to R44, R71, R113). -/
def Obligations.SetLineModeChangesMode : Prop :=
  ∀ (s : State) (c : CommandInFlight) (l : LineId) (mode : LineMode), s.Serving c (.setLineMode l mode) →
    let f := s.lines[l]
    let flushed (f' : FeedLine) : FeedLine := { f' with
      buffer := [], counters := { f.counters with flushed := satAdd f.counters.flushed f.buffer.length } }
    let stopped (f' : FeedLine) : FeedLine := { f' with
      mode := .off, reception := none, silenceStart := none, silent := false }
    let put (f' : FeedLine) : State := { s with lines := s.lines.set l f' }
    let finish (t : State) : Host.Outcome State Fault Refusal := .next (t.afterRequest c .done [])
    let left (t : State) : State := if t.pairLive (pairOf l) then t else t.releaseAll (pairOf l)
    let enabled := s.tables.profile[pairOf l].enabled
    (mode = .live → enabled = false → exec .setLineMode s = .next (s.afterRequest c .busy [])) ∧
    (mode = f.mode → (mode = .live → enabled = true) → exec .setLineMode s = finish s) ∧
    (f.mode = .off → mode ≠ .off → (mode = .live → enabled = true) → f.link = .up →
      s.tables.line[l].silenceLimit ≠ 0 → exec .setLineMode s =
        finish (put { f with mode := mode, silenceStart := some s.tick, silent := false })) ∧
    (f.mode = .off → mode ≠ .off → (mode = .live → enabled = true) →
      (f.link = .down ∨ s.tables.line[l].silenceLimit = 0) → exec .setLineMode s =
        finish (put { f with mode := mode, silent := false })) ∧
    (f.mode = .monitor → mode = .live → enabled = true → exec .setLineMode s = finish (put { f with mode := .live })) ∧
    (f.mode = .monitor → mode = .off → exec .setLineMode s = finish (put (stopped f))) ∧
    (f.mode = .live → mode = .monitor → exec .setLineMode s =
      finish (left (put { flushed f with mode := .monitor }))) ∧
    (f.mode = .live → mode = .off → exec .setLineMode s = finish (left (put (stopped (flushed f)))))

/-- SET_TIME and TRIM_RATE are BUSY in ACQUIRING and LOCKED; else SET_TIME installs the given time at now + 65,536 with the
rate kept, TRIM_RATE continues the old time there with W_nom + offset held to the clamp, LIMITED when the clamp changed
it, and the state becomes FREE, with TB_STATE unless it was FREE (R21, R22, R8). -/
def Obligations.SetTimeAndTrimRate : Prop :=
  ∀ (s : State) (c : CommandInFlight),
    let t := s.timeBase
    let point := s.tick * 16 + 65536
    let installed (a w : Int) : State :=
      if t.state = .free then { s with timeBase := { t with previous := t.current, current := ⟨point, a, w⟩ } }
      else State.raise { s with timeBase := { t with
        previous := t.current, current := ⟨point, a, w⟩, state := .free, lockRun := 0, outlierRun := 0
        holdoverExpired := if t.state = .holdover then false else t.holdoverExpired } } 0
    (∀ seconds ns, s.Serving c (.setTime seconds ns) →
      ((t.state = .acquiring ∨ t.state = .locked) → exec .setTime s = .next (s.afterRequest c .busy [])) ∧
      (t.state ≠ .acquiring → t.state ≠ .locked → exec .setTime s =
        .next ((installed (((seconds : Int) * 10 ^ 9 + ns) * 2 ^ 32) t.current.rate).afterRequest c .done []))) ∧
    ∀ off, s.Serving c (.trimRate off) →
      ((t.state = .acquiring ∨ t.state = .locked) → exec .trimRate s = .next (s.afterRequest c .busy [])) ∧
      (t.state ≠ .acquiring → t.state ≠ .locked → -2097152 ≤ off → off ≤ 2097152 → exec .trimRate s =
        .next ((installed (convert t.previous t.current point) (10737418240 + off)).afterRequest c .done [])) ∧
      (t.state ≠ .acquiring → t.state ≠ .locked → off < -2097152 → exec .trimRate s =
        .next ((installed (convert t.previous t.current point) 10735321088).afterRequest c .limited [])) ∧
      (t.state ≠ .acquiring → t.state ≠ .locked → 2097152 < off → exec .trimRate s =
        .next ((installed (convert t.previous t.current point) 10739515392).afterRequest c .limited []))

/-- CLEAR_FEEDS returns the channels of the pair named, or of all four, to UNSEEN with their figures kept, flushes and
counts its holds, and empties its twin window and lag statistics, its queue kept (R95); CLEAR_NOTICES clears every
source and no more (R170). -/
def Obligations.ClearFeedsAndClearNotices : Prop :=
  ∀ (s : State) (c : CommandInFlight),
    (∀ target : Option PairId, s.Serving c (.clearFeeds target) → ∃ t : State,
      exec .clearFeeds s = .next (t.afterRequest c .done []) ∧
      t = { s with pairs := t.pairs, channels := t.channels } ∧
      (∀ p, (target = none ∨ target = some p) → t.pairs[p] = { s.pairs[p] with
        pool := [], window := [], lag := ⟨0, 0, 0, 0, 0, 0, 0, 0, 0, 0⟩, dropBefore := false
        counters := { s.pairs[p].counters with
          flushed := satAdd s.pairs[p].counters.flushed s.pairs[p].pool.length } }) ∧
      (∀ p, target ≠ none → target ≠ some p → t.pairs[p] = s.pairs[p]) ∧
      ∀ ch : ChannelId, t.channels[ch] =
        if s.tables.channel[ch].enabled = true ∧ (target = none ∨ target = some s.tables.channel[ch].pair) then
          { s.channels[ch] with sequence := .unseen } else s.channels[ch]) ∧
    (s.Serving c .clearNotices → exec .clearNotices s = .next (State.afterRequest { s with
      notices := { s.notices with counts := Vector.replicate 52 0 } } c .done []))

/-- The requests of a command go on one by one: a request that ends is kept as a result and the next one starts when
checks 2 to 5 of R151 pass it; a fault under stop-on-fault skips the rest; requests that the checks decide complete at
once (R150 to R152). Entries of a TABLE_WRITE go on likewise, and the last one ends the request with LIMITED when a value
was clamped, else DONE, and the number written (R158, R176).
The order of the checks when a request is taken up (R151): an unknown kind, then a broadcast command and a kind other
than IDENTIFY, then the arguments, then the size of the reply (R153). The arguments pass with exactly the lengths and
values of each kind's rule, as `Action.AskedBy` lists them, and the reply is sized with the data lengths of R175. -/
def Obligations.RequestsAreCheckedAndFollow : Prop :=
  (∀ (s : State) (c : CommandInFlight) (r : Request) (rest : List Request) (st : Status) (data : List Byte),
      c.remaining = r :: rest →
      let kept := c.results ++ [Result.mk r.kind st data]
      (∀ nxt more, rest = nxt :: more → (c.stopOnFault = true → st.isFault = false) →
        (∃ a, examine c.broadcast kept nxt more.length = .ok a) → s.afterRequest c st data =
          (s.setUnit (.executing { c with
            results := kept, remaining := rest, written := 0, clamped := false })).settle) ∧
      (∀ nxt more why, rest = nxt :: more → (c.stopOnFault = true → st.isFault = false) →
        examine c.broadcast kept nxt more.length = .error why → s.afterRequest c st data =
          s.afterRequest { c with results := kept, remaining := rest } why []) ∧
      (c.stopOnFault = true → st.isFault = true → s.afterRequest c st data = (s.endCommand { c with
        results := kept ++ rest.map (fun r => ⟨r.kind, .skipped, []⟩), remaining := []
        written := 0, clamped := false }).settleUnit) ∧
      (rest = [] → (c.stopOnFault = true → st.isFault = false) → s.afterRequest c st data =
        (s.endCommand { c with results := kept, remaining := [], written := 0, clamped := false }).settleUnit) ∧
      (∀ total clamped, c.written + 1 < total → s.acceptEntry c total clamped =
        (s.setUnit (.executing { c with
          written := c.written + 1, clamped := c.clamped || clamped })).settle) ∧
      (∀ total clamped, total ≤ c.written + 1 → s.acceptEntry c total clamped = s.afterRequest { c with
        written := c.written + 1, clamped := c.clamped || clamped }
        (if c.clamped || clamped then .limited else .done) (field 1 (c.written + 1))) ∧
      s.refuseEntry c st = s.afterRequest c st (field 1 c.written)) ∧
  (∀ (broadcast : Bool) (results : List Result) (r : Request) (after : Nat),
      let known : Prop := r.kind.toNat ∈ [0x01, 0x02, 0x03, 0x04, 0x05, 0x06, 0x07, 0x10, 0x11, 0x20, 0x21, 0x22, 0x30,
        0x31, 0x3F]
      let size (n : Nat) : Nat := 21 + (results.map fun x => 4 + x.data.length).sum + (4 + n) + 4 * after
      (¬known → examine broadcast results r after = .error .unknown) ∧
      (known → broadcast = true → r.kind.toNat ≠ 1 → examine broadcast results r after = .error .refused) ∧
      (known → (broadcast = true → r.kind.toNat = 1) → r.action = none →
        examine broadcast results r after = .error .badArgument) ∧
      ∀ a, known → (broadcast = true → r.kind.toNat = 1) → r.action = some a →
        (2044 < size a.dataLength → examine broadcast results r after = .error .refused) ∧
        (size a.dataLength ≤ 2044 → examine broadcast results r after = .ok a)) ∧
  (∀ (r : Request) (a : Action), r.action = some a ↔ a.AskedBy r) ∧
  [TableId.line, .profile, .channel, .reference, .timebase, .notice, .delivery].map
    (fun t => (t.entries, t.entrySize)) = [(8, 8), (4, 14), (256, 11), (2, 8), (1, 16), (1, 18), (2, 2)] ∧
  ∀ a : Action, a.dataLength = match a with
    | .identify => 10
    | .readTime => 39
    | .readReference _ => 24
    | .readCountersLine _ _ => 48
    | .readCountersPair _ _ => 64
    | .readCountersDelivery _ _ => 26
    | .readChannels _ count => 19 * count
    | .readLag _ _ => 56
    | .readNotices _ => 104
    | .tableRead table _ count => count * table.entrySize
    | .tableWrite _ _ _ => 1
    | .setLineMode _ _ | .setTime _ _ | .trimRate _ | .clearFeeds _ | .clearNotices | .restart => 0


/-- A reply carries the command's source as destination, the station address as source, the token and one result per
request in order; it is appended to the reply queue of the receiving line, or dropped with REPLY_DROPPED at 4. A command
whose last result is a RESTART with DONE leaves the unit in RESTART_PENDING when its reply is appended, and starts the
RESTART at once when it is dropped (R140, R147, R154, R160, R174). -/
def Obligations.CommandEndsWithReply : Prop :=
  ∀ (s : State) (c : CommandInFlight),
    let x := s.deliveries[c.dline]
    let frame : List Byte := macField c.source ++ macField (stationAddress s.strapLatch) ++
      [0x88, 0xB5, 0x4F, 0x43, 2, 0] ++ natBytes 2 c.token.toNat ++ field 1 c.results.length ++
      c.results.flatMap fun r => r.kind :: (field 1 r.status.code ++ field 2 r.data.length ++ r.data)
    let restart : Prop := ∃ before data, c.results = before ++ [⟨0x3F, .done, data⟩]
    (x.replies.length < 4 → ¬restart → s.endCommand c = { s with
      unit := .idle
      deliveries := s.deliveries.set c.dline { x with replies := x.replies ++ ([⟨frame, false⟩] : List Reply) } }) ∧
    (4 ≤ x.replies.length → ¬restart → s.endCommand c = State.raise { s with unit := .idle } 51) ∧
    (x.replies.length < 4 → restart → s.endCommand c = { s with
      unit := .restartPending
      deliveries := s.deliveries.set c.dline { x with replies := x.replies ++ ([⟨frame, true⟩] : List Reply) } }) ∧
    (4 ≤ x.replies.length → restart →
      s.endCommand c = (State.raise { s with unit := .idle } 51).startRestart)

/-- RESTART ends with DONE as the last request of its command and with BAD_ARGUMENT before it (R160; that the place is
looked at when it completes is the model's, log 12). Its start gives every block the values of power-on reset with the
straps latched anew, but a send or discard in flight runs on, no longer counted (R145, R146, R161). -/
def Obligations.RestartResetsEveryBlock : Prop :=
  ∀ s : State,
    (∀ c, s.Serving c .restart → c.remaining.length = 1 → exec .restart s = .next (s.afterRequest c .done [])) ∧
    (∀ c, s.Serving c .restart → c.remaining.length ≠ 1 →
      exec .restart s = .next (s.afterRequest c .badArgument [])) ∧
    s.startRestart.HoldsResetValues s.strapPins ∧ s.startRestart.clock = s.clock ∧
    s.startRestart.strapPins = s.strapPins ∧ s.startRestart.pending = s.pending ∧
    ∀ d : DlineId,
      (s.deliveries[d].transmitter = .idle → s.startRestart.deliveries[d].transmitter = .idle) ∧
      (∀ t, s.deliveries[d].transmitter = .sending t → ∃ t', s.startRestart.deliveries[d].transmitter = .sending t' ∧
        t'.kind = t.kind ∧ t'.bytes = t.bytes ∧ t'.counted = false) ∧
      ∀ t, s.deliveries[d].transmitter = .discarding t →
        ∃ t', s.startRestart.deliveries[d].transmitter = .discarding t' ∧
          t'.kind = t.kind ∧ t'.bytes = t.bytes ∧ t'.counted = false

/-- An IDLE unit takes the oldest command of the inbox, in what follows an event, and no other unit takes one (R147). A
command with an entry count outside 1..16, or with an entry that reaches past its last byte, is answered MALFORMED at
once, that reply being dropped with REPLY_DROPPED at a full queue, and the unit is left as it was; a command whose
1..16 entries fit becomes the command in flight with exactly those requests (R148, R149, R154, R140). The order in which
a choice and the taking follow one event is the model's (log 6). -/
def Obligations.MalformedCommandsAreAnswered : Prop :=
  (∀ (s : State) (k : InboxCommand),
      let count := numAt k.frame 20 1
      let queue := s.deliveries[k.dline].replies
      (count = 0 ∨ 16 < count → requestsOf k.frame = none) ∧
      (∀ requests, requestsOf k.frame = some requests → requests.length = count ∧
        ∃ rest, k.frame.drop 21 = (requests.flatMap fun r => r.kind :: (natBytes 2 r.args.length ++ r.args)) ++ rest) ∧
      (∀ (header rest : List Byte) (requests : List Request), header.length = 21 → count = requests.length →
        1 ≤ requests.length → requests.length ≤ 16 → (∀ r ∈ requests, r.args.length < 65536) →
        k.frame = header ++ (requests.flatMap fun r => r.kind :: (natBytes 2 r.args.length ++ r.args)) ++ rest →
        requestsOf k.frame = some requests) ∧
      (requestsOf k.frame = none → queue.length < 4 → s.takeCommand k = { s with
        deliveries := s.deliveries.set k.dline { s.deliveries[k.dline] with
          replies := queue ++ ([⟨macField (macAt k.frame 6) ++ macField (stationAddress s.strapLatch) ++
            [0x88, 0xB5, 0x4F, 0x43, 2, 1] ++ natBytes 2 (numAt k.frame 18 2) ++ [0], false⟩] : List Reply) } }) ∧
      (requestsOf k.frame = none → 4 ≤ queue.length → s.takeCommand k = s.raise 51) ∧
      ∀ requests, requestsOf k.frame = some requests → s.takeCommand k = s.carryOn (CommandInFlight.advance
        ⟨k.dline, k.broadcast, macAt k.frame 6, BitVec.ofNat 16 (numAt k.frame 18 2), numAt k.frame 17 1 % 2 == 1,
          requests, [], 0, false⟩)) ∧
  ∀ s : State,
    let t := s.settle
    (t.unit ≠ .idle ∨ t.inbox = [] → s.settleUnit = t) ∧
    ∀ k rest, t.unit = .idle → t.inbox = k :: rest →
      s.settleUnit = (State.takeCommand { t with inbox := rest } k).settleUnit

/-! ## Invariants -/

/-- The state after reset meets every invariant below. -/
def Obligations.InvariantsHoldAtReset : Prop :=
  State.reset.WithinCapacity ∧ State.reset.TwinKeysDistinct ∧ State.reset.SelectionSound ∧ State.reset.AnchorsSound ∧
    State.reset.LinesSound ∧ State.reset.HoldsSound ∧ State.reset.NothingReadyWaits

/-- Every step keeps every FIFO, pool and window within its capacity (R52, R91, R98, R119, R140, R148). -/
def Obligations.CapacitiesHold : Prop :=
  ∀ s t : State, s.WithinCapacity → step s = .next t → t.WithinCapacity

/-- Every step keeps the keys of each twin window distinct (R119). -/
def Obligations.TwinKeysStayDistinct : Prop :=
  ∀ s t : State, s.TwinKeysDistinct → step s = .next t → t.TwinKeysDistinct

/-- Every step keeps monitors, selection and time base in agreement (R8, R34, R36, R37). -/
def Obligations.SelectionStaysSound : Prop :=
  ∀ s t : State, s.SelectionSound → step s = .next t → t.SelectionSound

/-- Every step keeps the rate words within the clamp and the anchor store in order (R3, R4, R17), for states whose
selection is sound. -/
def Obligations.AnchorsStaySound : Prop :=
  ∀ s t : State, s.SelectionSound → s.AnchorsSound → step s = .next t → t.AnchorsSound

/-- Every step keeps lines and tables in agreement (R44, R54, R59, R69, R71). -/
def Obligations.LinesStaySound : Prop :=
  ∀ s t : State, s.LinesSound → step s = .next t → t.LinesSound

/-- Every step keeps holds and channel states in agreement, and the held frames of each channel in ascending order of
start offset, disjoint and beyond X (R75, R99, R113), for states whose lines and tables are sound. -/
def Obligations.HoldsStaySound : Prop :=
  ∀ s t : State, s.LinesSound → s.HoldsSound → step s = .next t → t.HoldsSound

/-- After every step nothing that is ready waits (R136, R147, R166). -/
def Obligations.NothingReadyEverWaits : Prop :=
  ∀ s t : State, s.NothingReadyWaits → step s = .next t → t.NothingReadyWaits
end

