-- ==== Sys2Proof/Laws/State.lean ====
section
/-! SUPPORT. Every field of State after each update of one block, and after a raise. -/

namespace Sys2Proof.Machine

/-! ## State.setMonitor -/

@[simp] theorem State.setMonitor_clock (s : State) (r : RefId) (m : Monitor) : (s.setMonitor r m).clock = s.clock := rfl
@[simp] theorem State.setMonitor_tick (s : State) (r : RefId) (m : Monitor) : (s.setMonitor r m).tick = s.tick := rfl
@[simp] theorem State.setMonitor_strapPins (s : State) (r : RefId) (m : Monitor) : (s.setMonitor r m).strapPins = s.strapPins := rfl
@[simp] theorem State.setMonitor_strapLatch (s : State) (r : RefId) (m : Monitor) : (s.setMonitor r m).strapLatch = s.strapLatch := rfl
@[simp] theorem State.setMonitor_timeBase (s : State) (r : RefId) (m : Monitor) : (s.setMonitor r m).timeBase = s.timeBase := rfl
@[simp] theorem State.setMonitor_monitors (s : State) (r : RefId) (m : Monitor) : (s.setMonitor r m).monitors = s.monitors.set r m := rfl
@[simp] theorem State.setMonitor_selected (s : State) (r : RefId) (m : Monitor) : (s.setMonitor r m).selected = s.selected := rfl
@[simp] theorem State.setMonitor_lines (s : State) (r : RefId) (m : Monitor) : (s.setMonitor r m).lines = s.lines := rfl
@[simp] theorem State.setMonitor_pairs (s : State) (r : RefId) (m : Monitor) : (s.setMonitor r m).pairs = s.pairs := rfl
@[simp] theorem State.setMonitor_channels (s : State) (r : RefId) (m : Monitor) : (s.setMonitor r m).channels = s.channels := rfl
@[simp] theorem State.setMonitor_deliveries (s : State) (r : RefId) (m : Monitor) : (s.setMonitor r m).deliveries = s.deliveries := rfl
@[simp] theorem State.setMonitor_unit (s : State) (r : RefId) (m : Monitor) : (s.setMonitor r m).unit = s.unit := rfl
@[simp] theorem State.setMonitor_inbox (s : State) (r : RefId) (m : Monitor) : (s.setMonitor r m).inbox = s.inbox := rfl
@[simp] theorem State.setMonitor_tables (s : State) (r : RefId) (m : Monitor) : (s.setMonitor r m).tables = s.tables := rfl
@[simp] theorem State.setMonitor_notices (s : State) (r : RefId) (m : Monitor) : (s.setMonitor r m).notices = s.notices := rfl
@[simp] theorem State.setMonitor_pending (s : State) (r : RefId) (m : Monitor) : (s.setMonitor r m).pending = s.pending := rfl

/-! ## State.setLine -/

@[simp] theorem State.setLine_clock (s : State) (l : LineId) (f : FeedLine) : (s.setLine l f).clock = s.clock := rfl
@[simp] theorem State.setLine_tick (s : State) (l : LineId) (f : FeedLine) : (s.setLine l f).tick = s.tick := rfl
@[simp] theorem State.setLine_strapPins (s : State) (l : LineId) (f : FeedLine) : (s.setLine l f).strapPins = s.strapPins := rfl
@[simp] theorem State.setLine_strapLatch (s : State) (l : LineId) (f : FeedLine) : (s.setLine l f).strapLatch = s.strapLatch := rfl
@[simp] theorem State.setLine_timeBase (s : State) (l : LineId) (f : FeedLine) : (s.setLine l f).timeBase = s.timeBase := rfl
@[simp] theorem State.setLine_monitors (s : State) (l : LineId) (f : FeedLine) : (s.setLine l f).monitors = s.monitors := rfl
@[simp] theorem State.setLine_selected (s : State) (l : LineId) (f : FeedLine) : (s.setLine l f).selected = s.selected := rfl
@[simp] theorem State.setLine_lines (s : State) (l : LineId) (f : FeedLine) : (s.setLine l f).lines = s.lines.set l f := rfl
@[simp] theorem State.setLine_pairs (s : State) (l : LineId) (f : FeedLine) : (s.setLine l f).pairs = s.pairs := rfl
@[simp] theorem State.setLine_channels (s : State) (l : LineId) (f : FeedLine) : (s.setLine l f).channels = s.channels := rfl
@[simp] theorem State.setLine_deliveries (s : State) (l : LineId) (f : FeedLine) : (s.setLine l f).deliveries = s.deliveries := rfl
@[simp] theorem State.setLine_unit (s : State) (l : LineId) (f : FeedLine) : (s.setLine l f).unit = s.unit := rfl
@[simp] theorem State.setLine_inbox (s : State) (l : LineId) (f : FeedLine) : (s.setLine l f).inbox = s.inbox := rfl
@[simp] theorem State.setLine_tables (s : State) (l : LineId) (f : FeedLine) : (s.setLine l f).tables = s.tables := rfl
@[simp] theorem State.setLine_notices (s : State) (l : LineId) (f : FeedLine) : (s.setLine l f).notices = s.notices := rfl
@[simp] theorem State.setLine_pending (s : State) (l : LineId) (f : FeedLine) : (s.setLine l f).pending = s.pending := rfl

/-! ## State.setPair -/

@[simp] theorem State.setPair_clock (s : State) (p : PairId) (a : PairArbiter) : (s.setPair p a).clock = s.clock := rfl
@[simp] theorem State.setPair_tick (s : State) (p : PairId) (a : PairArbiter) : (s.setPair p a).tick = s.tick := rfl
@[simp] theorem State.setPair_strapPins (s : State) (p : PairId) (a : PairArbiter) : (s.setPair p a).strapPins = s.strapPins := rfl
@[simp] theorem State.setPair_strapLatch (s : State) (p : PairId) (a : PairArbiter) : (s.setPair p a).strapLatch = s.strapLatch := rfl
@[simp] theorem State.setPair_timeBase (s : State) (p : PairId) (a : PairArbiter) : (s.setPair p a).timeBase = s.timeBase := rfl
@[simp] theorem State.setPair_monitors (s : State) (p : PairId) (a : PairArbiter) : (s.setPair p a).monitors = s.monitors := rfl
@[simp] theorem State.setPair_selected (s : State) (p : PairId) (a : PairArbiter) : (s.setPair p a).selected = s.selected := rfl
@[simp] theorem State.setPair_lines (s : State) (p : PairId) (a : PairArbiter) : (s.setPair p a).lines = s.lines := rfl
@[simp] theorem State.setPair_pairs (s : State) (p : PairId) (a : PairArbiter) : (s.setPair p a).pairs = s.pairs.set p a := rfl
@[simp] theorem State.setPair_channels (s : State) (p : PairId) (a : PairArbiter) : (s.setPair p a).channels = s.channels := rfl
@[simp] theorem State.setPair_deliveries (s : State) (p : PairId) (a : PairArbiter) : (s.setPair p a).deliveries = s.deliveries := rfl
@[simp] theorem State.setPair_unit (s : State) (p : PairId) (a : PairArbiter) : (s.setPair p a).unit = s.unit := rfl
@[simp] theorem State.setPair_inbox (s : State) (p : PairId) (a : PairArbiter) : (s.setPair p a).inbox = s.inbox := rfl
@[simp] theorem State.setPair_tables (s : State) (p : PairId) (a : PairArbiter) : (s.setPair p a).tables = s.tables := rfl
@[simp] theorem State.setPair_notices (s : State) (p : PairId) (a : PairArbiter) : (s.setPair p a).notices = s.notices := rfl
@[simp] theorem State.setPair_pending (s : State) (p : PairId) (a : PairArbiter) : (s.setPair p a).pending = s.pending := rfl

/-! ## State.setChannel -/

@[simp] theorem State.setChannel_clock (s : State) (c : ChannelId) (x : Channel) : (s.setChannel c x).clock = s.clock := rfl
@[simp] theorem State.setChannel_tick (s : State) (c : ChannelId) (x : Channel) : (s.setChannel c x).tick = s.tick := rfl
@[simp] theorem State.setChannel_strapPins (s : State) (c : ChannelId) (x : Channel) : (s.setChannel c x).strapPins = s.strapPins := rfl
@[simp] theorem State.setChannel_strapLatch (s : State) (c : ChannelId) (x : Channel) : (s.setChannel c x).strapLatch = s.strapLatch := rfl
@[simp] theorem State.setChannel_timeBase (s : State) (c : ChannelId) (x : Channel) : (s.setChannel c x).timeBase = s.timeBase := rfl
@[simp] theorem State.setChannel_monitors (s : State) (c : ChannelId) (x : Channel) : (s.setChannel c x).monitors = s.monitors := rfl
@[simp] theorem State.setChannel_selected (s : State) (c : ChannelId) (x : Channel) : (s.setChannel c x).selected = s.selected := rfl
@[simp] theorem State.setChannel_lines (s : State) (c : ChannelId) (x : Channel) : (s.setChannel c x).lines = s.lines := rfl
@[simp] theorem State.setChannel_pairs (s : State) (c : ChannelId) (x : Channel) : (s.setChannel c x).pairs = s.pairs := rfl
@[simp] theorem State.setChannel_channels (s : State) (c : ChannelId) (x : Channel) : (s.setChannel c x).channels = s.channels.set c x := rfl
@[simp] theorem State.setChannel_deliveries (s : State) (c : ChannelId) (x : Channel) : (s.setChannel c x).deliveries = s.deliveries := rfl
@[simp] theorem State.setChannel_unit (s : State) (c : ChannelId) (x : Channel) : (s.setChannel c x).unit = s.unit := rfl
@[simp] theorem State.setChannel_inbox (s : State) (c : ChannelId) (x : Channel) : (s.setChannel c x).inbox = s.inbox := rfl
@[simp] theorem State.setChannel_tables (s : State) (c : ChannelId) (x : Channel) : (s.setChannel c x).tables = s.tables := rfl
@[simp] theorem State.setChannel_notices (s : State) (c : ChannelId) (x : Channel) : (s.setChannel c x).notices = s.notices := rfl
@[simp] theorem State.setChannel_pending (s : State) (c : ChannelId) (x : Channel) : (s.setChannel c x).pending = s.pending := rfl

/-! ## State.setDelivery -/

@[simp] theorem State.setDelivery_clock (s : State) (d : DlineId) (x : DeliveryLine) : (s.setDelivery d x).clock = s.clock := rfl
@[simp] theorem State.setDelivery_tick (s : State) (d : DlineId) (x : DeliveryLine) : (s.setDelivery d x).tick = s.tick := rfl
@[simp] theorem State.setDelivery_strapPins (s : State) (d : DlineId) (x : DeliveryLine) : (s.setDelivery d x).strapPins = s.strapPins := rfl
@[simp] theorem State.setDelivery_strapLatch (s : State) (d : DlineId) (x : DeliveryLine) : (s.setDelivery d x).strapLatch = s.strapLatch := rfl
@[simp] theorem State.setDelivery_timeBase (s : State) (d : DlineId) (x : DeliveryLine) : (s.setDelivery d x).timeBase = s.timeBase := rfl
@[simp] theorem State.setDelivery_monitors (s : State) (d : DlineId) (x : DeliveryLine) : (s.setDelivery d x).monitors = s.monitors := rfl
@[simp] theorem State.setDelivery_selected (s : State) (d : DlineId) (x : DeliveryLine) : (s.setDelivery d x).selected = s.selected := rfl
@[simp] theorem State.setDelivery_lines (s : State) (d : DlineId) (x : DeliveryLine) : (s.setDelivery d x).lines = s.lines := rfl
@[simp] theorem State.setDelivery_pairs (s : State) (d : DlineId) (x : DeliveryLine) : (s.setDelivery d x).pairs = s.pairs := rfl
@[simp] theorem State.setDelivery_channels (s : State) (d : DlineId) (x : DeliveryLine) : (s.setDelivery d x).channels = s.channels := rfl
@[simp] theorem State.setDelivery_deliveries (s : State) (d : DlineId) (x : DeliveryLine) : (s.setDelivery d x).deliveries = s.deliveries.set d x := rfl
@[simp] theorem State.setDelivery_unit (s : State) (d : DlineId) (x : DeliveryLine) : (s.setDelivery d x).unit = s.unit := rfl
@[simp] theorem State.setDelivery_inbox (s : State) (d : DlineId) (x : DeliveryLine) : (s.setDelivery d x).inbox = s.inbox := rfl
@[simp] theorem State.setDelivery_tables (s : State) (d : DlineId) (x : DeliveryLine) : (s.setDelivery d x).tables = s.tables := rfl
@[simp] theorem State.setDelivery_notices (s : State) (d : DlineId) (x : DeliveryLine) : (s.setDelivery d x).notices = s.notices := rfl
@[simp] theorem State.setDelivery_pending (s : State) (d : DlineId) (x : DeliveryLine) : (s.setDelivery d x).pending = s.pending := rfl

/-! ## State.setTimeBase -/

@[simp] theorem State.setTimeBase_clock (s : State) (t : TimeBase) : (s.setTimeBase t).clock = s.clock := rfl
@[simp] theorem State.setTimeBase_tick (s : State) (t : TimeBase) : (s.setTimeBase t).tick = s.tick := rfl
@[simp] theorem State.setTimeBase_strapPins (s : State) (t : TimeBase) : (s.setTimeBase t).strapPins = s.strapPins := rfl
@[simp] theorem State.setTimeBase_strapLatch (s : State) (t : TimeBase) : (s.setTimeBase t).strapLatch = s.strapLatch := rfl
@[simp] theorem State.setTimeBase_timeBase (s : State) (t : TimeBase) : (s.setTimeBase t).timeBase = t := rfl
@[simp] theorem State.setTimeBase_monitors (s : State) (t : TimeBase) : (s.setTimeBase t).monitors = s.monitors := rfl
@[simp] theorem State.setTimeBase_selected (s : State) (t : TimeBase) : (s.setTimeBase t).selected = s.selected := rfl
@[simp] theorem State.setTimeBase_lines (s : State) (t : TimeBase) : (s.setTimeBase t).lines = s.lines := rfl
@[simp] theorem State.setTimeBase_pairs (s : State) (t : TimeBase) : (s.setTimeBase t).pairs = s.pairs := rfl
@[simp] theorem State.setTimeBase_channels (s : State) (t : TimeBase) : (s.setTimeBase t).channels = s.channels := rfl
@[simp] theorem State.setTimeBase_deliveries (s : State) (t : TimeBase) : (s.setTimeBase t).deliveries = s.deliveries := rfl
@[simp] theorem State.setTimeBase_unit (s : State) (t : TimeBase) : (s.setTimeBase t).unit = s.unit := rfl
@[simp] theorem State.setTimeBase_inbox (s : State) (t : TimeBase) : (s.setTimeBase t).inbox = s.inbox := rfl
@[simp] theorem State.setTimeBase_tables (s : State) (t : TimeBase) : (s.setTimeBase t).tables = s.tables := rfl
@[simp] theorem State.setTimeBase_notices (s : State) (t : TimeBase) : (s.setTimeBase t).notices = s.notices := rfl
@[simp] theorem State.setTimeBase_pending (s : State) (t : TimeBase) : (s.setTimeBase t).pending = s.pending := rfl

/-! ## State.setSelected -/

@[simp] theorem State.setSelected_clock (s : State) (r : Option RefId) : (s.setSelected r).clock = s.clock := rfl
@[simp] theorem State.setSelected_tick (s : State) (r : Option RefId) : (s.setSelected r).tick = s.tick := rfl
@[simp] theorem State.setSelected_strapPins (s : State) (r : Option RefId) : (s.setSelected r).strapPins = s.strapPins := rfl
@[simp] theorem State.setSelected_strapLatch (s : State) (r : Option RefId) : (s.setSelected r).strapLatch = s.strapLatch := rfl
@[simp] theorem State.setSelected_timeBase (s : State) (r : Option RefId) : (s.setSelected r).timeBase = s.timeBase := rfl
@[simp] theorem State.setSelected_monitors (s : State) (r : Option RefId) : (s.setSelected r).monitors = s.monitors := rfl
@[simp] theorem State.setSelected_selected (s : State) (r : Option RefId) : (s.setSelected r).selected = r := rfl
@[simp] theorem State.setSelected_lines (s : State) (r : Option RefId) : (s.setSelected r).lines = s.lines := rfl
@[simp] theorem State.setSelected_pairs (s : State) (r : Option RefId) : (s.setSelected r).pairs = s.pairs := rfl
@[simp] theorem State.setSelected_channels (s : State) (r : Option RefId) : (s.setSelected r).channels = s.channels := rfl
@[simp] theorem State.setSelected_deliveries (s : State) (r : Option RefId) : (s.setSelected r).deliveries = s.deliveries := rfl
@[simp] theorem State.setSelected_unit (s : State) (r : Option RefId) : (s.setSelected r).unit = s.unit := rfl
@[simp] theorem State.setSelected_inbox (s : State) (r : Option RefId) : (s.setSelected r).inbox = s.inbox := rfl
@[simp] theorem State.setSelected_tables (s : State) (r : Option RefId) : (s.setSelected r).tables = s.tables := rfl
@[simp] theorem State.setSelected_notices (s : State) (r : Option RefId) : (s.setSelected r).notices = s.notices := rfl
@[simp] theorem State.setSelected_pending (s : State) (r : Option RefId) : (s.setSelected r).pending = s.pending := rfl

/-! ## State.setUnit -/

@[simp] theorem State.setUnit_clock (s : State) (u : UnitState) : (s.setUnit u).clock = s.clock := rfl
@[simp] theorem State.setUnit_tick (s : State) (u : UnitState) : (s.setUnit u).tick = s.tick := rfl
@[simp] theorem State.setUnit_strapPins (s : State) (u : UnitState) : (s.setUnit u).strapPins = s.strapPins := rfl
@[simp] theorem State.setUnit_strapLatch (s : State) (u : UnitState) : (s.setUnit u).strapLatch = s.strapLatch := rfl
@[simp] theorem State.setUnit_timeBase (s : State) (u : UnitState) : (s.setUnit u).timeBase = s.timeBase := rfl
@[simp] theorem State.setUnit_monitors (s : State) (u : UnitState) : (s.setUnit u).monitors = s.monitors := rfl
@[simp] theorem State.setUnit_selected (s : State) (u : UnitState) : (s.setUnit u).selected = s.selected := rfl
@[simp] theorem State.setUnit_lines (s : State) (u : UnitState) : (s.setUnit u).lines = s.lines := rfl
@[simp] theorem State.setUnit_pairs (s : State) (u : UnitState) : (s.setUnit u).pairs = s.pairs := rfl
@[simp] theorem State.setUnit_channels (s : State) (u : UnitState) : (s.setUnit u).channels = s.channels := rfl
@[simp] theorem State.setUnit_deliveries (s : State) (u : UnitState) : (s.setUnit u).deliveries = s.deliveries := rfl
@[simp] theorem State.setUnit_unit (s : State) (u : UnitState) : (s.setUnit u).unit = u := rfl
@[simp] theorem State.setUnit_inbox (s : State) (u : UnitState) : (s.setUnit u).inbox = s.inbox := rfl
@[simp] theorem State.setUnit_tables (s : State) (u : UnitState) : (s.setUnit u).tables = s.tables := rfl
@[simp] theorem State.setUnit_notices (s : State) (u : UnitState) : (s.setUnit u).notices = s.notices := rfl
@[simp] theorem State.setUnit_pending (s : State) (u : UnitState) : (s.setUnit u).pending = s.pending := rfl

/-! ## State.setInbox -/

@[simp] theorem State.setInbox_clock (s : State) (q : List InboxCommand) : (s.setInbox q).clock = s.clock := rfl
@[simp] theorem State.setInbox_tick (s : State) (q : List InboxCommand) : (s.setInbox q).tick = s.tick := rfl
@[simp] theorem State.setInbox_strapPins (s : State) (q : List InboxCommand) : (s.setInbox q).strapPins = s.strapPins := rfl
@[simp] theorem State.setInbox_strapLatch (s : State) (q : List InboxCommand) : (s.setInbox q).strapLatch = s.strapLatch := rfl
@[simp] theorem State.setInbox_timeBase (s : State) (q : List InboxCommand) : (s.setInbox q).timeBase = s.timeBase := rfl
@[simp] theorem State.setInbox_monitors (s : State) (q : List InboxCommand) : (s.setInbox q).monitors = s.monitors := rfl
@[simp] theorem State.setInbox_selected (s : State) (q : List InboxCommand) : (s.setInbox q).selected = s.selected := rfl
@[simp] theorem State.setInbox_lines (s : State) (q : List InboxCommand) : (s.setInbox q).lines = s.lines := rfl
@[simp] theorem State.setInbox_pairs (s : State) (q : List InboxCommand) : (s.setInbox q).pairs = s.pairs := rfl
@[simp] theorem State.setInbox_channels (s : State) (q : List InboxCommand) : (s.setInbox q).channels = s.channels := rfl
@[simp] theorem State.setInbox_deliveries (s : State) (q : List InboxCommand) : (s.setInbox q).deliveries = s.deliveries := rfl
@[simp] theorem State.setInbox_unit (s : State) (q : List InboxCommand) : (s.setInbox q).unit = s.unit := rfl
@[simp] theorem State.setInbox_inbox (s : State) (q : List InboxCommand) : (s.setInbox q).inbox = q := rfl
@[simp] theorem State.setInbox_tables (s : State) (q : List InboxCommand) : (s.setInbox q).tables = s.tables := rfl
@[simp] theorem State.setInbox_notices (s : State) (q : List InboxCommand) : (s.setInbox q).notices = s.notices := rfl
@[simp] theorem State.setInbox_pending (s : State) (q : List InboxCommand) : (s.setInbox q).pending = s.pending := rfl

/-! ## State.setTables -/

@[simp] theorem State.setTables_clock (s : State) (t : Tables) : (s.setTables t).clock = s.clock := rfl
@[simp] theorem State.setTables_tick (s : State) (t : Tables) : (s.setTables t).tick = s.tick := rfl
@[simp] theorem State.setTables_strapPins (s : State) (t : Tables) : (s.setTables t).strapPins = s.strapPins := rfl
@[simp] theorem State.setTables_strapLatch (s : State) (t : Tables) : (s.setTables t).strapLatch = s.strapLatch := rfl
@[simp] theorem State.setTables_timeBase (s : State) (t : Tables) : (s.setTables t).timeBase = s.timeBase := rfl
@[simp] theorem State.setTables_monitors (s : State) (t : Tables) : (s.setTables t).monitors = s.monitors := rfl
@[simp] theorem State.setTables_selected (s : State) (t : Tables) : (s.setTables t).selected = s.selected := rfl
@[simp] theorem State.setTables_lines (s : State) (t : Tables) : (s.setTables t).lines = s.lines := rfl
@[simp] theorem State.setTables_pairs (s : State) (t : Tables) : (s.setTables t).pairs = s.pairs := rfl
@[simp] theorem State.setTables_channels (s : State) (t : Tables) : (s.setTables t).channels = s.channels := rfl
@[simp] theorem State.setTables_deliveries (s : State) (t : Tables) : (s.setTables t).deliveries = s.deliveries := rfl
@[simp] theorem State.setTables_unit (s : State) (t : Tables) : (s.setTables t).unit = s.unit := rfl
@[simp] theorem State.setTables_inbox (s : State) (t : Tables) : (s.setTables t).inbox = s.inbox := rfl
@[simp] theorem State.setTables_tables (s : State) (t : Tables) : (s.setTables t).tables = t := rfl
@[simp] theorem State.setTables_notices (s : State) (t : Tables) : (s.setTables t).notices = s.notices := rfl
@[simp] theorem State.setTables_pending (s : State) (t : Tables) : (s.setTables t).pending = s.pending := rfl

/-! ## State.setNotices -/

@[simp] theorem State.setNotices_clock (s : State) (n : NoticeUnit) : (s.setNotices n).clock = s.clock := rfl
@[simp] theorem State.setNotices_tick (s : State) (n : NoticeUnit) : (s.setNotices n).tick = s.tick := rfl
@[simp] theorem State.setNotices_strapPins (s : State) (n : NoticeUnit) : (s.setNotices n).strapPins = s.strapPins := rfl
@[simp] theorem State.setNotices_strapLatch (s : State) (n : NoticeUnit) : (s.setNotices n).strapLatch = s.strapLatch := rfl
@[simp] theorem State.setNotices_timeBase (s : State) (n : NoticeUnit) : (s.setNotices n).timeBase = s.timeBase := rfl
@[simp] theorem State.setNotices_monitors (s : State) (n : NoticeUnit) : (s.setNotices n).monitors = s.monitors := rfl
@[simp] theorem State.setNotices_selected (s : State) (n : NoticeUnit) : (s.setNotices n).selected = s.selected := rfl
@[simp] theorem State.setNotices_lines (s : State) (n : NoticeUnit) : (s.setNotices n).lines = s.lines := rfl
@[simp] theorem State.setNotices_pairs (s : State) (n : NoticeUnit) : (s.setNotices n).pairs = s.pairs := rfl
@[simp] theorem State.setNotices_channels (s : State) (n : NoticeUnit) : (s.setNotices n).channels = s.channels := rfl
@[simp] theorem State.setNotices_deliveries (s : State) (n : NoticeUnit) : (s.setNotices n).deliveries = s.deliveries := rfl
@[simp] theorem State.setNotices_unit (s : State) (n : NoticeUnit) : (s.setNotices n).unit = s.unit := rfl
@[simp] theorem State.setNotices_inbox (s : State) (n : NoticeUnit) : (s.setNotices n).inbox = s.inbox := rfl
@[simp] theorem State.setNotices_tables (s : State) (n : NoticeUnit) : (s.setNotices n).tables = s.tables := rfl
@[simp] theorem State.setNotices_notices (s : State) (n : NoticeUnit) : (s.setNotices n).notices = n := rfl
@[simp] theorem State.setNotices_pending (s : State) (n : NoticeUnit) : (s.setNotices n).pending = s.pending := rfl

/-! ## State.raise -/

@[simp] theorem State.raise_clock (s : State) (id : Fin 52) : (s.raise id).clock = s.clock := rfl
@[simp] theorem State.raise_tick (s : State) (id : Fin 52) : (s.raise id).tick = s.tick := rfl
@[simp] theorem State.raise_strapPins (s : State) (id : Fin 52) : (s.raise id).strapPins = s.strapPins := rfl
@[simp] theorem State.raise_strapLatch (s : State) (id : Fin 52) : (s.raise id).strapLatch = s.strapLatch := rfl
@[simp] theorem State.raise_timeBase (s : State) (id : Fin 52) : (s.raise id).timeBase = s.timeBase := rfl
@[simp] theorem State.raise_monitors (s : State) (id : Fin 52) : (s.raise id).monitors = s.monitors := rfl
@[simp] theorem State.raise_selected (s : State) (id : Fin 52) : (s.raise id).selected = s.selected := rfl
@[simp] theorem State.raise_lines (s : State) (id : Fin 52) : (s.raise id).lines = s.lines := rfl
@[simp] theorem State.raise_pairs (s : State) (id : Fin 52) : (s.raise id).pairs = s.pairs := rfl
@[simp] theorem State.raise_channels (s : State) (id : Fin 52) : (s.raise id).channels = s.channels := rfl
@[simp] theorem State.raise_deliveries (s : State) (id : Fin 52) : (s.raise id).deliveries = s.deliveries := rfl
@[simp] theorem State.raise_unit (s : State) (id : Fin 52) : (s.raise id).unit = s.unit := rfl
@[simp] theorem State.raise_inbox (s : State) (id : Fin 52) : (s.raise id).inbox = s.inbox := rfl
@[simp] theorem State.raise_tables (s : State) (id : Fin 52) : (s.raise id).tables = s.tables := rfl
@[simp] theorem State.raise_pending (s : State) (id : Fin 52) : (s.raise id).pending = s.pending := rfl
@[simp] theorem State.raise_counts (s : State) (id : Fin 52) :
    (s.raise id).notices.counts = s.notices.counts.set id (min (s.notices.counts[id] + 1) 255) := rfl
@[simp] theorem State.raise_slot (s : State) (id : Fin 52) : (s.raise id).notices.slot = s.notices.slot := rfl
@[simp] theorem State.raise_spacingStart (s : State) (id : Fin 52) :
    (s.raise id).notices.spacingStart = s.notices.spacingStart := rfl

end Sys2Proof.Machine
end

