-- ==== Sys2Proof/Laws/Ops.lean ====
section
/-! SUPPORT. Vectors indexed by the numbers of lines, pairs, channels and sources, and what the gates of the clock and
of RESET_N do. State these lemmas keep the index as it is written, `v[i]` with `i : Fin n`; a proof that uses them
says `simp [-Fin.getElem_fin, …]`. -/

namespace Sys2Proof.Machine

theorem vector_getElem_set {α : Type} {n : Nat} (v : Vector α n) (i : Fin n) (x : α) : (v.set i x)[i] = x := by
  simp [Fin.getElem_fin]

theorem vector_getElem_set_ne {α : Type} {n : Nat} (v : Vector α n) (i j : Fin n) (x : α) (h : i ≠ j) :
    (v.set i x)[j] = v[j] := by
  simp [Fin.getElem_fin, Vector.getElem_set_ne, Fin.val_ne_of_ne h]

theorem vector_set_getElem {α : Type} {n : Nat} (v : Vector α n) (i : Fin n) : v.set i v[i] = v := by
  cases v; simp [Fin.getElem_fin]

theorem vector_getElem_ofFn {α : Type} {n : Nat} (f : Fin n → α) (i : Fin n) : (Vector.ofFn f)[i] = f i := by
  simp [Fin.getElem_fin]

theorem vector_getElem_map {α β : Type} {n : Nat} (f : α → β) (v : Vector α n) (i : Fin n) :
    (v.map f)[i] = f v[i] := by
  simp [Fin.getElem_fin]

/-- While RESET_N is low nothing acts. -/
theorem State.whenReleased_held (s : State) (f : State → State) (h : s.clock = .resetHeld) : s.whenReleased f = s := by
  simp [State.whenReleased, h]

theorem State.whenReleased_of_ne (s : State) (f : State → State) (h : s.clock ≠ .resetHeld) : s.whenReleased f = f s := by
  simp [State.whenReleased, h]

theorem State.whenRunning_running (s : State) (f : State → State) (h : s.clock = .running) : s.whenRunning f = f s := by
  simp [State.whenRunning, h]

theorem State.whenRunning_of_ne (s : State) (f : State → State) (h : s.clock ≠ .running) : s.whenRunning f = s := by
  simp [State.whenRunning, h]

/-- Two raises keep what each adds. -/
theorem State.raise_counts_other (s : State) (id other : Fin 52) (h : id ≠ other) :
    (s.raise id).notices.counts[other] = s.notices.counts[other] :=
  vector_getElem_set_ne _ _ _ _ h

/-- A raise adds one to its source, up to 255 (R164). -/
theorem State.raise_counts_self (s : State) (id : Fin 52) :
    (s.raise id).notices.counts[id] = min (s.notices.counts[id] + 1) 255 :=
  vector_getElem_set _ _ _

/-- The start of RESTART leaves every transmitter its transmission, no longer counted (R145). -/
theorem State.startRestart_deliveries (s : State) (d : DlineId) :
    s.startRestart.deliveries[d] =
      { DeliveryLine.reset with transmitter := s.deliveries[d].transmitter.afterRestart s.tick } :=
  vector_getElem_map _ _ _

/-- What the start of RESTART keeps and what it empties in the management unit. -/
theorem State.startRestart_unit (s : State) : s.startRestart.unit = .idle ∧ s.startRestart.inbox = [] ∧
    s.startRestart.clock = s.clock ∧ s.startRestart.pending = s.pending := ⟨rfl, rfl, rfl, rfl⟩

end Sys2Proof.Machine
end

