-- ==== Sys2Proof/Laws/Arbiter.lean ====
section
/-! SUPPORT. What each operation of a pair arbiter can change: the frame of one channel of one pair, the pool after
each of them, and the forms a lookup, an insertion and an examination can take. -/

namespace Sys2Proof.Machine

/-- A change that an operation on channel `c` of pair `p` can make: to that pair, that channel and the notice counts. -/
structure ArbiterFrame (p : PairId) (c : ChannelId) (s t : State) : Prop where
  rest : t = { s with pairs := t.pairs, channels := t.channels, notices := t.notices }
  slot : t.notices.slot = s.notices.slot
  spacing : t.notices.spacingStart = s.notices.spacingStart
  pairs : ∀ q, q ≠ p → t.pairs[q] = s.pairs[q]
  channels : ∀ x, x ≠ c → t.channels[x] = s.channels[x]

theorem ArbiterFrame.refl (p : PairId) (c : ChannelId) (s : State) : ArbiterFrame p c s s :=
  ⟨rfl, rfl, rfl, fun _ _ => rfl, fun _ _ => rfl⟩

theorem ArbiterFrame.trans {p : PairId} {c : ChannelId} {s t u : State} (h : ArbiterFrame p c s t)
    (g : ArbiterFrame p c t u) : ArbiterFrame p c s u := by
  refine ⟨?_, g.slot.trans h.slot, g.spacing.trans h.spacing, fun q hq => (g.pairs q hq).trans (h.pairs q hq),
    fun x hx => (g.channels x hx).trans (h.channels x hx)⟩
  rw [g.rest]
  conv_lhs => rw [h.rest]

theorem ArbiterFrame.lines {p : PairId} {c : ChannelId} {s t : State} (h : ArbiterFrame p c s t) : t.lines = s.lines := by
  rw [h.rest]

theorem ArbiterFrame.tables {p : PairId} {c : ChannelId} {s t : State} (h : ArbiterFrame p c s t) :
    t.tables = s.tables := by
  rw [h.rest]

theorem ArbiterFrame.tick {p : PairId} {c : ChannelId} {s t : State} (h : ArbiterFrame p c s t) : t.tick = s.tick := by
  rw [h.rest]

theorem ArbiterFrame.width {p : PairId} {c : ChannelId} {s t : State} (h : ArbiterFrame p c s t) : t.width = s.width := by
  funext q
  rw [State.width, h.tables]
  rfl

theorem State.raise_arbiterFrame (s : State) (p : PairId) (c : ChannelId) (id : Fin 52) :
    ArbiterFrame p c s (s.raise id) :=
  ⟨rfl, rfl, rfl, fun _ _ => rfl, fun _ _ => rfl⟩

theorem State.setPair_arbiterFrame (s : State) (p : PairId) (c : ChannelId) (a : PairArbiter) :
    ArbiterFrame p c s (s.setPair p a) :=
  ⟨rfl, rfl, rfl, fun _ hq => vector_getElem_set_ne _ _ _ _ (Ne.symm hq), fun _ _ => rfl⟩

theorem State.setChannel_arbiterFrame (s : State) (p : PairId) (c : ChannelId) (x : Channel) :
    ArbiterFrame p c s (s.setChannel c x) :=
  ⟨rfl, rfl, rfl, fun _ _ => rfl, fun _ hq => vector_getElem_set_ne _ _ _ _ (Ne.symm hq)⟩

theorem State.deliver_arbiterFrame (s : State) (p : PairId) (c : ChannelId) (e : DeliveryEntry) :
    ArbiterFrame p c s (s.deliver p e) := by
  unfold State.deliver
  split
  · exact s.setPair_arbiterFrame ..
  · exact (s.setPair_arbiterFrame ..).trans (State.raise_arbiterFrame ..)

theorem State.accountGap_arbiterFrame (s : State) (p : PairId) (c : ChannelId) (gap : Nat) :
    ArbiterFrame p c s (s.accountGap p c gap) :=
  ((s.setChannel_arbiterFrame ..).trans (State.setPair_arbiterFrame ..)).trans (State.raise_arbiterFrame ..)

/-- A delivery touches no channel. -/
theorem State.deliver_channels (s : State) (p : PairId) (e : DeliveryEntry) : (s.deliver p e).channels = s.channels := by
  unfold State.deliver; split <;> rfl

/-- A delivery leaves the hold pool. -/
theorem State.deliver_pool (s : State) (p : PairId) (e : DeliveryEntry) :
    (s.deliver p e).pairs[p].pool = s.pairs[p].pool := by
  unfold State.deliver
  split <;>
    simp only [State.setPair, State.raise, State.setNotices, PairArbiter.append, PairArbiter.drop, vector_getElem_set]

/-- Accounting a gap leaves the hold pool. -/
theorem State.accountGap_pool (s : State) (p : PairId) (c : ChannelId) (gap : Nat) :
    (s.accountGap p c gap).pairs[p].pool = s.pairs[p].pool := by
  simp only [State.accountGap, State.setCounters, State.setPair, State.raise, State.setNotices, State.setChannel,
    vector_getElem_set]

/-- A frame that leaves the pool in the release loop leaves the rest of the pool. -/
theorem State.releaseFrame_pool (s : State) (p : PairId) (f : ListedFrame) (start : Int) :
    (s.releaseFrame p f start).pairs[p].pool = removeLowest s.pairs[p].pool f.channel := by
  simp only [State.releaseFrame, State.setExpected, State.setSequence, State.setChannel, State.deliver_pool,
    State.setPool, State.setPair, vector_getElem_set]

theorem State.releaseFrame_arbiterFrame (s : State) (p : PairId) (f : ListedFrame) (start : Int) :
    ArbiterFrame p f.channel s (s.releaseFrame p f start) :=
  ((s.setPair_arbiterFrame ..).trans (State.deliver_arbiterFrame ..)).trans (State.setChannel_arbiterFrame ..)

/-- The lowest held frame of a channel is a held frame of that channel. -/
theorem lowestHeld_some {pool : List ListedFrame} {c : ChannelId} {f : ListedFrame} (h : lowestHeld pool c = some f) :
    f ∈ pool ∧ f.channel = c :=
  ⟨List.mem_of_find?_eq_some h, by simpa using List.find?_some h⟩

/-- No lowest held frame means no held frame of the channel. -/
theorem lowestHeld_none {pool : List ListedFrame} {c : ChannelId} :
    lowestHeld pool c = none ↔ ∀ f ∈ pool, f.channel ≠ c := by
  simp [lowestHeld]

/-- Removing the lowest held frame takes one frame out of the pool. -/
theorem removeLowest_length {pool : List ListedFrame} {c : ChannelId} {f : ListedFrame}
    (h : lowestHeld pool c = some f) : (removeLowest pool c).length + 1 = pool.length := by
  have hm := lowestHeld_some h
  have h3 : 0 < pool.length := List.length_pos_of_mem hm.1
  rw [removeLowest, List.length_eraseP_of_mem hm.1 (by simp [hm.2])]
  omega

theorem removeLowest_sublist (pool : List ListedFrame) (c : ChannelId) : (removeLowest pool c).Sublist pool :=
  List.eraseP_sublist

/-- X set to a value leaves UNSEEN. -/
theorem State.setExpected_ne_unseen (s : State) (c : ChannelId) (x : Nat) :
    (s.setExpected c x).channels[c].sequence ≠ .unseen := by
  simp only [State.setExpected, State.setSequence, State.setChannel, vector_getElem_set]
  cases s.channels[c].sequence <;> simp [SequenceState.withExpected]

/-- One turn of the release loop, by what the lowest held frame is (R92). -/
theorem State.releaseLoop_succ (s : State) (turns : Nat) (p : PairId) (c : ChannelId) :
    (lowestHeld s.pairs[p].pool c = none ∧
      s.releaseLoop (turns + 1) p c = s.setSequence c s.channels[c].sequence.close) ∨
    ∃ f, lowestHeld s.pairs[p].pool c = some f ∧
      ((offset (s.width p) f.s (s.expectedOf c) + f.n ≤ 0 ∧
          s.releaseLoop (turns + 1) p c = (s.supersede p c).releaseLoop turns p c) ∨
        (0 < offset (s.width p) f.s (s.expectedOf c) + f.n ∧ offset (s.width p) f.s (s.expectedOf c) ≤ 0 ∧
          s.releaseLoop (turns + 1) p c =
            (s.releaseFrame p f (offset (s.width p) f.s (s.expectedOf c))).releaseLoop turns p c) ∨
        (0 < offset (s.width p) f.s (s.expectedOf c) ∧ s.releaseLoop (turns + 1) p c = s)) := by
  rcases Option.eq_none_or_eq_some (lowestHeld s.pairs[p].pool c) with h | ⟨f, h⟩
  · exact .inl ⟨h, by simp only [State.releaseLoop, h]⟩
  · refine .inr ⟨f, h, ?_⟩
    by_cases h1 : offset (s.width p) f.s (s.expectedOf c) + (f.n : Int) ≤ 0
    · exact .inl ⟨h1, by simp only [State.releaseLoop, h, h1, if_true]⟩
    · by_cases h2 : offset (s.width p) f.s (s.expectedOf c) ≤ 0
      · exact .inr (.inl ⟨by omega, h2, by simp only [State.releaseLoop, h, h1, h2, if_true, if_false]⟩)
      · exact .inr (.inr ⟨by omega, by simp only [State.releaseLoop, h, h1, h2, if_false]⟩)

/-- The release loop changes its channel and its pair only, and takes frames out of the pool only. -/
theorem State.releaseLoop_arbiterFrame (turns : Nat) : ∀ (s : State) (p : PairId) (c : ChannelId),
    ArbiterFrame p c s (s.releaseLoop turns p c) ∧ (s.releaseLoop turns p c).pairs[p].pool.Sublist s.pairs[p].pool := by
  induction turns with
  | zero => exact fun s p c => ⟨.refl .., .refl _⟩
  | succ k ih =>
    intro s p c
    rcases s.releaseLoop_succ k p c with ⟨_, h⟩ | ⟨f, hf, ⟨_, h⟩ | ⟨_, _, h⟩ | ⟨_, h⟩⟩ <;> simp only [h]
    · exact ⟨s.setChannel_arbiterFrame .., .refl _⟩
    · have hp : (s.supersede p c).pairs[p].pool = removeLowest s.pairs[p].pool c := by
        simp only [State.supersede, State.setPair, vector_getElem_set]
      have := ih (s.supersede p c) p c
      rw [hp] at this
      exact ⟨(s.setPair_arbiterFrame ..).trans this.1, this.2.trans (removeLowest_sublist ..)⟩
    · obtain ⟨_, rfl⟩ := lowestHeld_some hf
      have := ih (s.releaseFrame p f (offset (s.width p) f.s (s.expectedOf f.channel))) p f.channel
      rw [s.releaseFrame_pool] at this
      exact ⟨(s.releaseFrame_arbiterFrame ..).trans this.1, this.2.trans (removeLowest_sublist ..)⟩
    · exact ⟨.refl .., .refl _⟩

/-- An expiry step with a held frame, before its release loop (R103, steps 1 to 4). -/
theorem State.expiryStep_eq (s : State) (p : PairId) (c : ChannelId) (f : ListedFrame)
    (h : lowestHeld s.pairs[p].pool c = some f) :
    ∃ y : State, s.expiryStep p c = y.release p c ∧ ArbiterFrame p c s y ∧
      y.pairs[p].pool = removeLowest s.pairs[p].pool c ∧ y.channels[c].sequence ≠ .unseen ∧
      y = (((s.setPool p (removeLowest s.pairs[p].pool c)).deliver p (f.entry (gapCountOf
        (offset (s.width p) f.s (s.expectedOf c)).toNat) .ofExpiry)).accountGap p c
        (offset (s.width p) f.s (s.expectedOf c)).toNat).setExpected c (endOf (s.width p) f.s f.n) := by
  refine ⟨_, by simp only [State.expiryStep, h], ?_, ?_, State.setExpected_ne_unseen _ _ _, rfl⟩
  · exact (((s.setPair_arbiterFrame ..).trans (State.deliver_arbiterFrame ..)).trans
      (State.accountGap_arbiterFrame ..)).trans (State.setChannel_arbiterFrame ..)
  · simp only [State.setExpected, State.setSequence, State.setChannel, State.accountGap_pool, State.deliver_pool,
      State.setPool, State.setPair, vector_getElem_set]

/-- An expiry step with no held frame does nothing. -/
theorem State.expiryStep_none (s : State) (p : PairId) (c : ChannelId) (h : lowestHeld s.pairs[p].pool c = none) :
    s.expiryStep p c = s := by
  simp only [State.expiryStep, h]

/-- The channel whose wait began first holds a frame; there is none exactly when the pool is empty (R110). -/
theorem State.oldestWait_spec (s : State) (p : PairId) :
    (s.oldestWait p = none ↔ s.pairs[p].pool = []) ∧
      ∀ c, s.oldestWait p = some c → ∃ f, lowestHeld s.pairs[p].pool c = some f := by
  have fold : ∀ (l : List ListedFrame) (b : ChannelId),
      l.foldl (fun best g => s.olderWait best g.channel) b = b ∨
        ∃ f ∈ l, f.channel = l.foldl (fun best g => s.olderWait best g.channel) b := by
    intro l
    induction l with
    | nil => simp
    | cons g t ih =>
      intro b
      rcases ih (s.olderWait b g.channel) with h | ⟨f, hf, h⟩
      · simp only [List.foldl_cons, h]
        unfold State.olderWait
        split
        · exact .inr ⟨g, by simp, rfl⟩
        · exact .inl rfl
      · exact .inr ⟨f, by simp [hf], h⟩
  have held : ∀ c, (∃ f ∈ s.pairs[p].pool, f.channel = c) → ∃ f, lowestHeld s.pairs[p].pool c = some f := by
    rintro c ⟨f, hf, hc⟩
    rcases Option.eq_none_or_eq_some (lowestHeld s.pairs[p].pool c) with h | h
    · exact absurd hc (lowestHeld_none.1 h f hf)
    · exact h
  unfold State.oldestWait
  rcases hp : s.pairs[p].pool with _ | ⟨f, rest⟩
  · simp
  · rw [hp] at held
    refine ⟨by simp, fun c hc => held c ?_⟩
    simp only [Option.some.injEq] at hc
    rcases fold rest f.channel with h | ⟨g, hg, h⟩
    · exact ⟨f, by simp, by rw [← hc, h]⟩
    · exact ⟨g, by simp [hg], by rw [h, hc]⟩

/-- A frame placed in the pool joins it, whatever its place (R100). -/
theorem insertHeld_mem (w x : Nat) (f g : ListedFrame) (pool : List ListedFrame) :
    g ∈ insertHeld w x f pool ↔ g = f ∨ g ∈ pool := by
  induction pool with
  | nil => simp [insertHeld]
  | cons h t ih =>
    simp only [insertHeld]
    split
    · simp
    · simp only [List.mem_cons, ih]; tauto

theorem insertHeld_length (w x : Nat) (f : ListedFrame) (pool : List ListedFrame) :
    (insertHeld w x f pool).length = pool.length + 1 := by
  induction pool with
  | nil => rfl
  | cons h t ih =>
    simp only [insertHeld]
    split <;> simp [ih]

/-- A key in the window is found by comparing the three parts (section 7.1). -/
theorem TwinEntry.hasKey_iff (e : TwinEntry) (c : ChannelId) (q : Nat) (kind : FrameKind) :
    e.hasKey c q kind = true ↔ e.channel = c ∧ e.s = q ∧ e.kind = kind := by
  simp [TwinEntry.hasKey, and_assoc]

/-- The twin lookup: no entry with the key, an entry of the copy's own line, or one of the other line (R80). -/
theorem PairArbiter.twinLookup_cases (a : PairArbiter) (p : PairId) (c : ChannelId) (q : Nat) (kind : FrameKind)
    (r : FrameRecord) :
    ((∀ e ∈ a.window, e.hasKey c q kind = false) ∧ a.twinLookup p c q kind r = none) ∨
    ∃ e ∈ a.window, e.hasKey c q kind = true ∧
      a.twinLookup p c q kind r = some (if e.line = r.line then a.sameLine else a.twin p e r) := by
  unfold PairArbiter.twinLookup
  cases h : a.window.find? (·.hasKey c q kind) with
  | none => exact .inl ⟨fun e he => by simpa using List.find?_eq_none.1 h e he, rfl⟩
  | some e =>
    have hk := List.find?_some h
    exact .inr ⟨e, List.mem_of_find?_eq_some h, hk, rfl⟩

/-- Handling a taken record: unlisted, a heartbeat, or a data frame (R61, R65). -/
theorem State.handleRecord_cases (s : State) (p : PairId) (r : FrameRecord) :
    (∃ decodable, s.handleRecord p r = s.unlistedFrame p r decodable) ∨
    ∃ c q n, s.tables.classify p r.bytes = .listed c q n ∧
      ((n = 0 ∧ s.handleRecord p r = s.heartbeat p ⟨r, c, q, n⟩) ∨
        (n ≠ 0 ∧ s.handleRecord p r = s.dataFrame p ⟨r, c, q, n⟩)) := by
  unfold State.handleRecord
  split
  · exact .inl ⟨false, rfl⟩
  · exact .inl ⟨true, rfl⟩
  · rename_i c q n h
    refine .inr ⟨c, q, n, h, ?_⟩
    by_cases hn : n = 0
    · exact .inl ⟨hn, by simp [hn]⟩
    · exact .inr ⟨hn, by simp [hn]⟩

/-- A channel the classifier lists belongs to the pair (R60, R63). -/
theorem Tables.classify_belongsTo (t : Tables) (p : PairId) (bytes : List Byte) (c : ChannelId) (q n : Nat)
    (h : t.classify p bytes = .listed c q n) : t.channel[c].belongsTo p = true := by
  unfold Tables.classify at h
  dsimp only at h
  split at h
  · split at h
    · rename_i d hd
      have hb := List.find?_some hd
      simp only [Bool.and_eq_true] at hb
      injection h with h1
      subst h1
      exact hb.1
    · cases h
  · cases h

/-- What an examination of a data frame can be, by the case table (R77). -/
theorem State.examineData_cases (s : State) (p : PairId) (f : ListedFrame) :
    (s.channels[f.channel].sequence.expected = none ∧ s.examineData p f = some (s.firstFrame p f)) ∨
    ∃ x, s.channels[f.channel].sequence.expected = some x ∧
      (s.examineData p f = some (s.sequenceReset p f) ∨ s.examineData p f = some (s.oldFrame p f) ∨
        (∃ d, s.examineData p f = some (s.inStepFrame p f d)) ∨
        ∃ d, 0 < d ∧ s.examineData p f = s.aheadFrame p f d) := by
  unfold State.examineData
  cases h : s.channels[f.channel].sequence.expected with
  | none => exact .inl ⟨rfl, rfl⟩
  | some x =>
    refine .inr ⟨x, rfl, ?_⟩
    dsimp only
    split
    · exact .inl rfl
    · split
      · exact .inr (.inl rfl)
      · split
        · exact .inr (.inr (.inl ⟨_, rfl⟩))
        · exact .inr (.inr (.inr ⟨_, by omega, rfl⟩))

/-- CLEAR_FEEDS at one pair: that pair, and the channels that belong to it (R95). -/
theorem State.clearPair_spec (s : State) (p : PairId) :
    s.clearPair p = { s with pairs := (s.clearPair p).pairs, channels := (s.clearPair p).channels } ∧
    (s.clearPair p).pairs[p] = { s.pairs[p] with
      pool := [], window := [], lag := .empty, dropBefore := false
      counters := { s.pairs[p].counters with
        flushed := satAdd s.pairs[p].counters.flushed s.pairs[p].pool.length } } ∧
    (∀ q, q ≠ p → (s.clearPair p).pairs[q] = s.pairs[q]) ∧
    ∀ c : ChannelId, (s.clearPair p).channels[c] =
      if s.tables.channel[c].belongsTo p then s.channels[c].unsee else s.channels[c] :=
  ⟨rfl, vector_getElem_set _ _ _, fun _ hq => vector_getElem_set_ne _ _ _ _ (Ne.symm hq),
    fun _ => vector_getElem_ofFn _ _⟩

/-- The lowest held frame, found where the pool is split at it. -/
theorem lowestHeld_split {before after : List ListedFrame} {f : ListedFrame} {c : ChannelId} (hf : f.channel = c)
    (h : ∀ g ∈ before, g.channel ≠ c) :
    lowestHeld (before ++ f :: after) c = some f ∧ removeLowest (before ++ f :: after) c = before ++ after := by
  refine ⟨?_, ?_⟩
  · rw [lowestHeld, List.find?_append, List.find?_eq_none.2 (by simpa using h)]
    simp [hf]
  · rw [removeLowest, List.eraseP_append_right _ (by simpa using h)]
    simp [hf]

/-- Turns beyond those the pool can use change nothing (R92). -/
theorem State.releaseLoop_turns (a : Nat) : ∀ (b : Nat) (s : State) (p : PairId) (c : ChannelId),
    s.pairs[p].pool.length < a → s.pairs[p].pool.length < b → s.releaseLoop a p c = s.releaseLoop b p c := by
  induction a with
  | zero => intro b s p c h; omega
  | succ a ih =>
    intro b s p c ha hb
    obtain ⟨b, rfl⟩ : ∃ n, b = n + 1 := ⟨b - 1, by omega⟩
    rcases Option.eq_none_or_eq_some (lowestHeld s.pairs[p].pool c) with hl | ⟨f, hl⟩ <;>
      simp only [State.releaseLoop, hl]
    have hn := removeLowest_length hl
    split
    · have hp : (s.supersede p c).pairs[p].pool = removeLowest s.pairs[p].pool c := by
        simp only [State.supersede, State.setPair, vector_getElem_set]
      exact ih b _ p c (by rw [hp]; omega) (by rw [hp]; omega)
    · split
      · obtain ⟨_, rfl⟩ := lowestHeld_some hl
        have hp := s.releaseFrame_pool p f (offset (s.width p) f.s (s.expectedOf f.channel))
        exact ih b _ p _ (by rw [hp]; omega) (by rw [hp]; omega)
      · rfl

/-- An expiry step with a held frame takes at least that frame out of the pool (R103). -/
theorem State.expiryStep_length (s : State) (p : PairId) (c : ChannelId) (f : ListedFrame)
    (h : lowestHeld s.pairs[p].pool c = some f) : (s.expiryStep p c).pairs[p].pool.length < s.pairs[p].pool.length := by
  obtain ⟨y, e, -, hp, -, -⟩ := s.expiryStep_eq p c f h
  have hn := removeLowest_length h
  have hle := (y.releaseLoop_arbiterFrame (y.pairs[p].pool.length + 1) p c).2.length_le
  rw [hp] at hle
  rw [e, State.release, hp]
  omega

/-- Steps beyond those the pool can use change nothing (R113, R115). -/
theorem State.drainLoop_turns (a : Nat) : ∀ (b : Nat) (s : State) (p : PairId) (c : ChannelId),
    s.pairs[p].pool.length ≤ a → s.pairs[p].pool.length ≤ b → s.drainLoop a p c = s.drainLoop b p c := by
  have idle : ∀ (s : State) (p : PairId) (c : ChannelId) (k : Nat), lowestHeld s.pairs[p].pool c = none →
      s.drainLoop k p c = s := fun s p c k h => by cases k <;> simp only [State.drainLoop, h, Option.isSome_none, Bool.false_eq_true, if_false]
  induction a with
  | zero =>
    intro b s p c ha hb
    have h0 : s.pairs[p].pool = [] := List.length_eq_zero_iff.1 (by omega)
    rw [idle _ _ _ _ (by rw [h0]; rfl), idle _ _ _ _ (by rw [h0]; rfl)]
  | succ a ih =>
    intro b s p c ha hb
    rcases Option.eq_none_or_eq_some (lowestHeld s.pairs[p].pool c) with hl | ⟨f, hl⟩
    · rw [idle _ _ _ _ hl, idle _ _ _ _ hl]
    · have hlt := s.expiryStep_length p c f hl
      obtain ⟨b, rfl⟩ : ∃ n, b = n + 1 := ⟨b - 1, by omega⟩
      simp only [State.drainLoop, hl, Option.isSome_some, if_true]
      exact ih b _ p c (by omega) (by omega)

/-- A drain leaves the channel no held frame, and takes frames out of the pool only: at least one when the channel held
one (R113, R115). -/
theorem State.drain_pool (s : State) (p : PairId) (c : ChannelId) :
    lowestHeld (s.drain p c).pairs[p].pool c = none ∧ (s.drain p c).pairs[p].pool.length ≤ s.pairs[p].pool.length ∧
      (lowestHeld s.pairs[p].pool c ≠ none → (s.drain p c).pairs[p].pool.length < s.pairs[p].pool.length) := by
  have loop : ∀ (k : Nat) (s : State), s.pairs[p].pool.length ≤ k →
      lowestHeld (s.drainLoop k p c).pairs[p].pool c = none ∧
      (s.drainLoop k p c).pairs[p].pool.length ≤ s.pairs[p].pool.length ∧
      (lowestHeld s.pairs[p].pool c ≠ none → (s.drainLoop k p c).pairs[p].pool.length < s.pairs[p].pool.length) := by
    intro k
    induction k with
    | zero =>
      intro s h
      have h0 : s.pairs[p].pool = [] := List.length_eq_zero_iff.1 (by omega)
      simp only [State.drainLoop, h0]
      exact ⟨rfl, Nat.le_refl _, fun h => absurd rfl h⟩
    | succ k ih =>
      intro s h
      rcases Option.eq_none_or_eq_some (lowestHeld s.pairs[p].pool c) with hl | ⟨f, hl⟩
      · simp [-Fin.getElem_fin, State.drainLoop, hl]
      · have hlt := s.expiryStep_length p c f hl
        obtain ⟨h1, h2, -⟩ := ih (s.expiryStep p c) (by omega)
        simp only [State.drainLoop, hl, Option.isSome_some, if_true]
        exact ⟨h1, by omega, fun _ => by omega⟩
  exact loop _ s (Nat.le_refl _)

/-- Turns beyond those the pool can use change nothing (R113). -/
theorem State.releaseAllLoop_turns (a : Nat) : ∀ (b : Nat) (s : State) (p : PairId),
    s.pairs[p].pool.length ≤ a → s.pairs[p].pool.length ≤ b → s.releaseAllLoop a p = s.releaseAllLoop b p := by
  have idle : ∀ (s : State) (p : PairId) (k : Nat), s.oldestWait p = none → s.releaseAllLoop k p = s :=
    fun s p k h => by cases k <;> simp only [State.releaseAllLoop, h]
  induction a with
  | zero =>
    intro b s p ha hb
    have h0 := (s.oldestWait_spec p).1.2 (List.length_eq_zero_iff.1 (by omega))
    rw [idle _ _ _ h0, idle _ _ _ h0]
  | succ a ih =>
    intro b s p ha hb
    rcases Option.eq_none_or_eq_some (s.oldestWait p) with hl | ⟨c, hl⟩
    · rw [idle _ _ _ hl, idle _ _ _ hl]
    · obtain ⟨f, hf⟩ := (s.oldestWait_spec p).2 c hl
      have hlt := (s.drain_pool p c).2.2 (by rw [hf]; exact Option.some_ne_none f)
      obtain ⟨b, rfl⟩ : ∃ n, b = n + 1 := ⟨b - 1, by omega⟩
      simp only [State.releaseAllLoop, hl]
      exact ih b _ p (by omega) (by omega)

/-- The channel of the oldest wait: the held channel with the smallest gap-open tick, the lower number between equal
ticks (R110). -/
theorem State.oldestWait_eq (s : State) (p : PairId) (c : ChannelId) (hc : ∃ f ∈ s.pairs[p].pool, f.channel = c)
    (hm : ∀ g ∈ s.pairs[p].pool, g.channel ≠ c → s.channels[c].gapOpenTick < s.channels[g.channel].gapOpenTick ∨
      (s.channels[c].gapOpenTick = s.channels[g.channel].gapOpenTick ∧ c < g.channel)) : s.oldestWait p = some c := by
  have stay : ∀ g ∈ s.pairs[p].pool, s.olderWait c g.channel = c := by
    intro g hg
    by_cases h : g.channel = c
    · simp [State.olderWait, h]
    · rw [State.olderWait, if_neg]
      rcases hm g hg h with h | ⟨e, h⟩
      · omega
      · rintro (h' | ⟨-, h'⟩)
        · omega
        · exact absurd h (Nat.lt_asymm h')
  have move : ∀ g ∈ s.pairs[p].pool, s.olderWait g.channel c = c := by
    intro g hg
    by_cases h : g.channel = c
    · simp [State.olderWait, h]
    · rw [State.olderWait, if_pos (hm g hg h)]
  have kept : ∀ l : List ListedFrame, (∀ g ∈ l, g ∈ s.pairs[p].pool) →
      l.foldl (fun best g => s.olderWait best g.channel) c = c := by
    intro l
    induction l with
    | nil => simp
    | cons g t ih =>
      intro h
      rw [List.foldl_cons, stay g (h g (by simp))]
      exact ih fun x hx => h x (by simp [hx])
  have found : ∀ (l : List ListedFrame) (b : ChannelId), (∀ g ∈ l, g ∈ s.pairs[p].pool) →
      (∃ g ∈ s.pairs[p].pool, g.channel = b) → (b = c ∨ ∃ g ∈ l, g.channel = c) →
      l.foldl (fun best g => s.olderWait best g.channel) b = c := by
    intro l
    induction l with
    | nil => intro b _ _ h; rcases h with rfl | ⟨g, hg, _⟩; rfl; cases hg
    | cons g t ih =>
      rintro b h ⟨e, he, rfl⟩ hb
      rw [List.foldl_cons]
      by_cases hg : g.channel = c
      · rw [hg, move e he]
        exact kept t fun x hx => h x (by simp [hx])
      · rcases hb with hb | ⟨x, hx, hxc⟩
        · rw [hb, stay g (h g (by simp))]
          exact kept t fun x hx => h x (by simp [hx])
        · refine ih _ (fun x hx => h x (by simp [hx])) ?_ (.inr ⟨x, ?_, hxc⟩)
          · unfold State.olderWait
            split
            · exact ⟨g, h g (by simp), rfl⟩
            · exact ⟨e, he, rfl⟩
          · rcases List.mem_cons.1 hx with rfl | hx
            · exact absurd hxc hg
            · exact hx
  obtain ⟨f, hf, hfc⟩ := hc
  unfold State.oldestWait
  rcases hp : s.pairs[p].pool with _ | ⟨g, rest⟩
  · rw [hp] at hf; cases hf
  · rw [hp] at hf found
    simp only [Option.some.injEq]
    refine found rest g.channel (fun x hx => by simp [hx]) ⟨g, by simp, rfl⟩ ?_
    rcases List.mem_cons.1 hf with rfl | hf
    · exact .inl hfc
    · exact .inr ⟨f, hf, hfc⟩

end Sys2Proof.Machine
end

