-- ==== Sys2Proof/Laws/Delivery.lean ====
section
/-! SUPPORT. What a build, a choice and the settling of an event can do. -/

namespace Sys2Proof.Machine

/-- The repeat counts after a build of a level. -/
theorem NoticeUnit.countsWithout_getElem (u : NoticeUnit) (level : Fin 4) (id : Fin 52) :
    (u.countsWithout level)[id] = if sourceLevel id = level then 0 else u.counts[id] :=
  vector_getElem_ofFn _ _

theorem State.buildLevel_slot (s : State) (level : Fin 4) :
    (s.buildLevel level).notices.slot = some (s.noticeFrame level) := by
  simp only [State.buildLevel, State.setNotices]

theorem State.buildLevel_spacingStart (s : State) (level : Fin 4) :
    (s.buildLevel level).notices.spacingStart = s.notices.spacingStart := by
  simp only [State.buildLevel, State.setNotices]

theorem State.buildLevel_counts (s : State) (level : Fin 4) (id : Fin 52) :
    (s.buildLevel level).notices.counts[id] = if sourceLevel id = level then 0 else s.notices.counts[id] := by
  simp only [State.buildLevel, State.setNotices, NoticeUnit.countsWithout_getElem]

/-- A level is ready when it is unmasked and a source of it is pending (R166). -/
theorem State.mem_readyLevels (s : State) (level : Fin 4) : level ∈ s.readyLevels ↔
    s.tables.notice.masks[level] = false ∧ ∃ id, sourceLevel id = level ∧ 0 < s.notices.counts[id] := by
  have : ((s.notices.pendingOf level).isEmpty = false) ↔ ∃ id, sourceLevel id = level ∧ 0 < s.notices.counts[id] := by
    rw [← Bool.not_eq_true, List.isEmpty_iff, NoticeUnit.pendingOf, List.filter_eq_nil_iff]
    simp [-Fin.getElem_fin, Nat.pos_iff_ne_zero]
  simp only [State.readyLevels, List.mem_filter, List.mem_finRange, true_and, Bool.and_eq_true, Bool.not_eq_true', this]

/-- The rank search answers one of the levels it is given. -/
theorem lowestRank_mem (ranks : Vector Nat 4) (first : Fin 4) (others : List (Fin 4)) :
    lowestRank ranks first others ∈ first :: others := by
  unfold lowestRank
  induction others generalizing first with
  | nil => simp
  | cons a t ih =>
    rw [List.foldl_cons]
    split
    · have := ih a
      simp only [List.mem_cons] at this ⊢
      tauto
    · have := ih first
      simp only [List.mem_cons] at this ⊢
      tauto

/-- A build does nothing, or builds one ready level while one is allowed (R166). -/
theorem State.build_cases (s : State) : (s.buildAllowed = false ∧ s.build = s) ∨
    ∃ level, s.buildAllowed = true ∧ level ∈ s.readyLevels ∧ s.build = s.buildLevel level := by
  unfold State.build
  by_cases h : s.buildAllowed = true
  · rw [if_pos h]
    cases hr : s.readyLevels with
    | nil => simp [State.buildAllowed, hr] at h
    | cons first others => exact .inr ⟨_, h, lowestRank_mem .., rfl⟩
  · rw [if_neg h]
    exact .inl ⟨by simpa using h, rfl⟩

/-- After a build none is allowed. -/
theorem State.build_not_allowed (s : State) : s.build.buildAllowed = false := by
  rcases s.build_cases with ⟨h, e⟩ | ⟨level, _, _, e⟩ <;> rw [e]
  · exact h
  · simp [State.buildAllowed, State.buildLevel_slot]

/-- A build changes the notice unit only. -/
theorem State.build_frame (s : State) : s.build = { s with notices := s.build.notices } := by
  rcases s.build_cases with ⟨_, e⟩ | ⟨level, _, _, e⟩ <;> rw [e]
  simp only [State.buildLevel, State.setNotices]

/-- The group a choice picks holds a frame, and none does when it picks none (R136). -/
theorem State.chosenGroup_spec (s : State) (d : DlineId) :
    (∀ g, s.chosenGroup d = some g → s.groupHolds d g = true) ∧
      (s.chosenGroup d = none → ∀ g, s.groupHolds d g = false) := by
  refine ⟨fun g h => ?_, fun h g => ?_⟩
  · have := List.find?_some h
    exact this
  · have all : ∀ code : Fin 6, g ∈ groupOrder code := by
      intro code
      fin_cases code <;> cases g <;> simp [groupOrder]
    simpa using List.find?_eq_none.1 h g (all _)

/-- A choice: nothing, when the transmitter is busy or no group holds a frame; else a feed frame, a reply, or the
notice leaves (R136, R139). -/
theorem State.choose_cases (s : State) (d : DlineId) :
    ((s.deliveries[d].transmitter ≠ .idle ∨ ∀ g, s.groupHolds d g = false) ∧ s.choose d = s) ∨
    s.deliveries[d].transmitter = .idle ∧
      ((∃ p e rest, s.feedPair d = some p ∧ s.pairs[p].queue = e :: rest ∧ s.choose d =
          ((s.setPair p { s.pairs[p] with queue := rest }).setDelivery d
            { s.deliveries[d] with lastPairServed := p }).transmit d .feed e.wire) ∨
        (∃ r rest, s.deliveries[d].replies = r :: rest ∧
          let sent := (s.setDelivery d { s.deliveries[d] with replies := rest }).transmit d .reply (builtWire r.frame)
          s.choose d = if r.startsRestart then sent.startRestart else sent) ∨
        ∃ frame, s.notices.slot = some frame ∧ s.tables.notice.noticeLine = d ∧
          s.choose d = s.takeNotice.transmit d .notice (builtWire frame)) := by
  have spec := s.chosenGroup_spec d
  by_cases ht : s.deliveries[d].transmitter = .idle
  · rcases hg : s.chosenGroup d with _ | g
    · exact .inl ⟨.inr (spec.2 hg), by simp only [State.choose, ht, hg]⟩
    · refine .inr ⟨ht, ?_⟩
      have hold := spec.1 g hg
      cases g with
      | feed =>
        obtain ⟨p, hp⟩ := Option.isSome_iff_exists.1 (show (s.feedPair d).isSome = true from hold)
        have hr : s.feedReady d p = true := by have := List.find?_some hp; exact this
        rcases hq : s.pairs[p].queue with _ | ⟨e, rest⟩
        · simp only [State.feedReady, hq] at hr
          simp at hr
        · have hc : s.choose d = s.serveFeed d := by simp only [State.choose, ht, hg]
          exact .inl ⟨p, e, rest, hp, hq, by rw [hc]; simp only [State.serveFeed, hp, hq, State.setPair_deliveries]⟩
      | reply =>
        rcases hq : s.deliveries[d].replies with _ | ⟨r, rest⟩
        · simp only [State.groupHolds, hq] at hold
          simp at hold
        · exact .inr (.inl ⟨r, rest, rfl, by simp only [State.choose, ht, hg, State.serveReply, hq]⟩)
      | notice =>
        simp only [State.groupHolds, Bool.and_eq_true, beq_iff_eq] at hold
        obtain ⟨frame, hf⟩ := Option.isSome_iff_exists.1 hold.2
        exact .inr (.inr ⟨frame, hf, hold.1, by simp only [State.choose, ht, hg, State.serveNotice, hf]⟩)
  · refine .inl ⟨.inl ht, ?_⟩
    unfold State.choose
    split
    · rename_i h
      exact absurd h ht
    · rfl

/-- The transmitter of a line whose choice sent or discarded a frame is busy. -/
theorem State.transmit_busy (s : State) (d : DlineId) (kind : TransmitKind) (bytes : List Byte) :
    (s.transmit d kind bytes).deliveries[d].transmitter ≠ .idle := by
  simp only [State.transmit, State.setDelivery, vector_getElem_set]
  split <;> simp

/-- A choice on one line leaves the other line's transmitter idle or busy as it was, restart or not. -/
theorem Transmitter.afterRestart_idle (t : Transmitter) (tick : Nat) : t.afterRestart tick = .idle ↔ t = .idle := by
  cases t <;> simp [Transmitter.afterRestart]

/-- What follows an event leaves the inbox, or empties it when a RESTART starts (R161). -/
theorem State.settle_inbox (s : State) : s.settle.inbox = s.inbox ∨ s.settle.inbox = [] := by
  have build : ∀ s : State, s.build.inbox = s.inbox := fun s => by rw [s.build_frame]
  have choose : ∀ (s : State) (d : DlineId), (s.choose d).inbox = s.inbox ∨ (s.choose d).inbox = [] := by
    intro s d
    rcases s.choose_cases d with ⟨-, e⟩ | ⟨-, ⟨p, e, rest, -, -, h⟩ | ⟨r, rest, -, h⟩ | ⟨frame, -, -, h⟩⟩
    · exact .inl (by rw [e])
    · exact .inl (by rw [h]; rfl)
    · dsimp only at h
      rw [h]
      split
      · exact .inr rfl
      · exact .inl rfl
    · exact .inl (by rw [h]; rfl)
  rw [State.settle, build]
  rcases choose (s.build.choose 0) 1 with h | h <;> rw [h]
  · rcases choose s.build 0 with h | h <;> rw [h]
    · exact .inl (build s)
    · exact .inr rfl
  · exact .inr rfl

end Sys2Proof.Machine
end

