-- ==== Sys2Proof/Laws/Management.lean ====
section
/-! SUPPORT. What serving a request or a table entry, ending a command and taking one can do. -/

namespace Sys2Proof.Machine

/-- A request being executed is served by its own row. -/
theorem State.serve_of_current (s : State) (c : CommandInFlight) (a : Action)
    (row : Action → Option (State → CommandInFlight → Served)) (act : State → CommandInFlight → Served)
    (hc : s.clock ≠ .resetHeld) (hu : s.unit = .executing c) (ha : c.current = some a) (hr : row a = some act) :
    s.whenReleased (·.serve row) = (act s c).state.afterRequest c (act s c).status (act s c).data := by
  simp [State.whenReleased, hc, State.serve, hu, ha, hr]

/-- Serving does nothing, or ends the request being executed. -/
theorem State.serve_cases (s : State) (row : Action → Option (State → CommandInFlight → Served)) :
    s.serve row = s ∨ ∃ c a act, s.unit = .executing c ∧ c.current = some a ∧ row a = some act ∧
      s.serve row = (act s c).state.afterRequest c (act s c).status (act s c).data := by
  unfold State.serve
  cases hu : s.unit with
  | idle => exact .inl rfl
  | restartPending => exact .inl rfl
  | executing c =>
    dsimp only
    cases ha : c.current with
    | none => exact .inl rfl
    | some a =>
      cases hr : row a with
      | none => exact .inl (by simp [hr])
      | some act => exact .inr ⟨c, a, act, rfl, ha, hr, by simp [hr]⟩

/-- An entry being written is written by its table's rule. -/
theorem State.serveEntry_of_current (s : State) (c : CommandInFlight) (table : TableId) (start : Nat)
    (entries : List (List Byte)) (bs : List Byte) (hc : s.clock ≠ .resetHeld) (hu : s.unit = .executing c)
    (ha : c.current = some (.tableWrite table start entries)) (he : entries[c.written]? = some bs) :
    s.whenReleased (·.serveEntry table) =
      match s.entryWrite table (start + c.written) bs with
      | .refused st => s.refuseEntry c st
      | .accepted clamped s' => s'.acceptEntry c entries.length clamped := by
  simp only [State.whenReleased, hc, if_false, State.serveEntry, hu, ha, if_true, he]
  all_goals rfl

/-- Writing an entry does nothing, ends the request refused, or goes on with an accepted entry (R158). -/
theorem State.serveEntry_cases (s : State) (table : TableId) :
    s.serveEntry table = s ∨ ∃ c start entries bs, s.unit = .executing c ∧
      c.current = some (.tableWrite table start entries) ∧ entries[c.written]? = some bs ∧
      ((∃ st, s.entryWrite table (start + c.written) bs = .refused st ∧ s.serveEntry table = s.refuseEntry c st) ∨
        ∃ clamped s', s.entryWrite table (start + c.written) bs = .accepted clamped s' ∧
          s.serveEntry table = s'.acceptEntry c entries.length clamped) := by
  unfold State.serveEntry
  split
  · rename_i c hu
    split
    · rename_i t start entries ha
      split
      · rename_i ht
        subst ht
        split
        · exact .inl rfl
        · rename_i bs he
          refine .inr ⟨c, start, entries, bs, hu, ha, he, ?_⟩
          split
          · rename_i st hw
            exact .inl ⟨st, hw, rfl⟩
          · rename_i clamped s' hw
            exact .inr ⟨clamped, s', hw, rfl⟩
      · exact .inl rfl
    · exact .inl rfl
  · exact .inl rfl

/-- A reply is appended, or dropped at a full queue (R140). -/
theorem State.handReply_cases (s : State) (d : DlineId) (r : Reply) :
    (s.deliveries[d].replies.length < 4 ∧
      s.handReply d r = s.setDelivery d { s.deliveries[d] with replies := s.deliveries[d].replies ++ [r] }) ∨
    (4 ≤ s.deliveries[d].replies.length ∧ s.handReply d r = s.raise sourceReplyDropped) := by
  unfold State.handReply
  by_cases h : s.deliveries[d].replies.length < 4
  · exact .inl ⟨h, by simp only [Config.replyQueueSize, h, if_true]⟩
  · exact .inr ⟨by omega, by simp only [Config.replyQueueSize, h, if_false]⟩

/-- The requests decided when taken up leave none, or one to be executed at the front (R152). -/
theorem decideAtOnce_front (broadcast stop : Bool) : ∀ (rs : List Request) (kept : List Result) (r : Request)
    (rest : List Request), (decideAtOnce broadcast stop rs kept).1 = r :: rest →
    ∃ a, examine broadcast (decideAtOnce broadcast stop rs kept).2 r rest.length = .ok a := by
  intro rs
  induction rs with
  | nil => intro kept r rest h; simp [decideAtOnce] at h
  | cons q more ih =>
    intro kept r rest h
    unfold decideAtOnce at h ⊢
    cases hx : examine broadcast kept q more.length with
    | ok a =>
      simp only [hx, List.cons.injEq] at h
      obtain ⟨rfl, rfl⟩ := h
      exact ⟨a, hx⟩
    | error st =>
      simp only [hx] at h ⊢
      by_cases hs : (stop && st.isFault) = true
      · rw [if_pos hs] at h
        cases h
      · rw [if_neg hs] at h ⊢
        exact ih _ r rest h

/-- A command that has been advanced has nothing left, or is at a request to execute (R152). -/
theorem CommandInFlight.advance_current (c : CommandInFlight) : c.advance.remaining = [] ∨ c.advance.current ≠ none := by
  have h := decideAtOnce_front c.broadcast c.stopOnFault c.remaining c.results
  rcases hr : (decideAtOnce c.broadcast c.stopOnFault c.remaining c.results).1 with _ | ⟨r, rest⟩
  · exact .inl hr
  · obtain ⟨a, ha⟩ := h r rest hr
    refine .inr ?_
    have e1 : c.advance.remaining = r :: rest := hr
    have e2 : c.advance.results = (decideAtOnce c.broadcast c.stopOnFault c.remaining c.results).2 := rfl
    have e3 : c.advance.broadcast = c.broadcast := rfl
    simp only [CommandInFlight.current, e1, e2, e3, ha, Except.toOption]
    simp

/-- A command goes on with a request to execute, or ends (R147, R152). -/
theorem State.carryOn_cases (s : State) (c : CommandInFlight) :
    (c.remaining = [] ∧ s.carryOn c = s.endCommand c) ∨
    (c.remaining ≠ [] ∧ s.carryOn c = s.setUnit (.executing c)) := by
  unfold State.carryOn
  cases h : c.remaining with
  | nil => exact .inl ⟨rfl, rfl⟩
  | cons r rest => exact .inr ⟨by simp, rfl⟩

/-- The unit takes no command unless it is IDLE and the inbox holds one (R147). -/
theorem State.takeCommands_stop (s : State) (turns : Nat) (h : s.unit ≠ .idle ∨ s.inbox = []) :
    s.takeCommands turns = s := by
  cases turns with
  | zero => rfl
  | succ n =>
    unfold State.takeCommands
    split
    · rename_i hu hi
      rcases h with h | h
      · exact absurd hu h
      · rw [h] at hi; cases hi
    · rfl

theorem State.takeCommands_succ (s : State) (turns : Nat) (c : InboxCommand) (rest : List InboxCommand)
    (hu : s.unit = .idle) (hi : s.inbox = c :: rest) :
    s.takeCommands (turns + 1) = (((s.setInbox rest).takeCommand c).settle).takeCommands turns := by
  simp only [State.takeCommands, hu, hi]

/-- Taking a command leaves the inbox, or empties it when a RESTART starts at once (R160, R161). -/
theorem State.takeCommand_inbox (s : State) (c : InboxCommand) :
    (s.takeCommand c).inbox = s.inbox ∨ (s.takeCommand c).inbox = [] := by
  have hand : ∀ (s : State) (d : DlineId) (r : Reply), (s.handReply d r).inbox = s.inbox := by
    intro s d r
    rcases s.handReply_cases d r with ⟨_, e⟩ | ⟨_, e⟩ <;> rw [e] <;> rfl
  have carry : ∀ f : CommandInFlight, (s.carryOn f).inbox = s.inbox ∨ (s.carryOn f).inbox = [] := by
    intro f
    rcases s.carryOn_cases f with ⟨_, e⟩ | ⟨_, e⟩ <;> rw [e]
    · unfold State.endCommand
      dsimp only
      split_ifs
      · exact .inr rfl
      · exact .inl (hand _ _ _)
      · exact .inl (hand _ _ _)
    · exact .inl rfl
  unfold State.takeCommand
  split
  · exact .inl (hand _ _ _)
  · exact carry _

/-- Turns beyond those the inbox can use change nothing (R147). -/
theorem State.takeCommands_turns (a : Nat) : ∀ (b : Nat) (s : State), s.inbox.length ≤ a → s.inbox.length ≤ b →
    s.takeCommands a = s.takeCommands b := by
  induction a with
  | zero =>
    intro b s ha _
    have h0 : s.inbox = [] := List.length_eq_zero_iff.1 (by omega)
    rw [s.takeCommands_stop _ (.inr h0), s.takeCommands_stop _ (.inr h0)]
  | succ a ih =>
    intro b s ha hb
    by_cases hu : s.unit = .idle
    · rcases hi : s.inbox with _ | ⟨c, rest⟩
      · rw [s.takeCommands_stop _ (.inr hi), s.takeCommands_stop _ (.inr hi)]
      · rw [hi, List.length_cons] at ha hb
        obtain ⟨b, rfl⟩ : ∃ n, b = n + 1 := ⟨b - 1, by omega⟩
        rw [s.takeCommands_succ a c rest hu hi, s.takeCommands_succ b c rest hu hi]
        have left : (((s.setInbox rest).takeCommand c).settle).inbox.length ≤ rest.length := by
          rcases ((s.setInbox rest).takeCommand c).settle_inbox with h | h <;> rw [h]
          · rcases (s.setInbox rest).takeCommand_inbox c with h | h <;> rw [h]
            · exact Nat.le_refl _
            · exact Nat.zero_le _
          · exact Nat.zero_le _
        exact ih b _ (by omega) (by omega)
    · rw [s.takeCommands_stop _ (.inl hu), s.takeCommands_stop _ (.inl hu)]

/-- A flag field reads as a flag exactly when it is 0 or 1. -/
theorem boolAt_iff (bs : List Byte) (o : Nat) (b : Bool) : boolAt bs o = some b ↔ numAt bs o 1 = b.toNat := by
  unfold boolAt
  split
  · rename_i h
    rw [h]
    cases b <;> simp
  · rename_i h
    rw [h]
    cases b <;> simp
  · rename_i h0 h1
    constructor
    · simp
    · intro h
      cases b
      · exact absurd h h0
      · exact absurd h h1

/-- A field names one of n things exactly when it is below n. -/
theorem finAt_iff (n : Nat) (bs : List Byte) (o : Nat) (i : Fin n) : finAt n bs o = some i ↔ numAt bs o 1 = i.val := by
  unfold finAt
  split
  · simp [Fin.ext_iff]
  · rename_i h
    constructor
    · simp
    · exact fun e => absurd (e ▸ i.isLt) h

/-- The entries of a TABLE_WRITE are the whole pieces of its bytes (R158). -/
theorem entriesOf_cons (e bs : List Byte) (size count : Nat) (h : e.length = size) :
    entriesOf (e ++ bs) size (count + 1) = e :: entriesOf bs size count := by
  subst h
  simp only [entriesOf, List.range_succ_eq_map, List.map_cons, List.map_map, Nat.zero_mul, slice, List.drop_zero,
    List.take_left, List.cons.injEq, true_and]
  refine List.map_congr_left fun i _ => ?_
  rw [Function.comp_apply, Nat.succ_mul, List.drop_append, List.drop_eq_nil_of_le (Nat.le_add_left _ _), List.nil_append,
    Nat.add_sub_cancel]

end Sys2Proof.Machine
end

