-- ==== Sys2Proof/Laws/TimeBase.lean ====
section
/-! SUPPORT. What a change of the time base's state, an install, a completed discipline computation and the selector can
do. -/

namespace Sys2Proof.Machine

/-- The clamp answers a rate word of its range (R17). -/
theorem clampRate_range (w : Int) : 10735321088 ≤ clampRate w ∧ clampRate w ≤ 10739515392 := by
  simp only [clampRate, Config.nominalRate, Config.rateSpan]
  omega

/-- The clamp keeps a rate word of its range. -/
theorem clampRate_eq (w : Int) (h : 10735321088 ≤ w) (h' : w ≤ 10739515392) : clampRate w = w := by
  simp only [clampRate, Config.nominalRate, Config.rateSpan]
  omega

/-- A change of state: nothing when the time base is in it already; else the state, the runs, the condition and
TB_STATE (R8). -/
theorem State.enterTb_cases (s : State) (target : TimeBaseState) :
    (s.timeBase.state = target ∧ s.enterTb target = s) ∨
    (s.timeBase.state ≠ target ∧
      s.enterTb target = (s.setTimeBase (s.timeBase.enter target)).raise sourceTbState) := by
  by_cases h : s.timeBase.state = target
  · exact .inl ⟨h, by simp [State.enterTb, h]⟩
  · exact .inr ⟨h, by simp [State.enterTb, h]⟩

theorem State.enterTb_state (s : State) (target : TimeBaseState) : (s.enterTb target).timeBase.state = target := by
  rcases s.enterTb_cases target with ⟨h, e⟩ | ⟨_, e⟩ <;> rw [e]
  · exact h
  · rfl

/-- A change of state leaves the records, the last error, the step count and the computation in flight. -/
theorem State.enterTb_keeps (s : State) (target : TimeBaseState) :
    (s.enterTb target).timeBase.previous = s.timeBase.previous ∧
    (s.enterTb target).timeBase.current = s.timeBase.current ∧
    (s.enterTb target).timeBase.lastError = s.timeBase.lastError ∧
    (s.enterTb target).timeBase.stepCount = s.timeBase.stepCount ∧
    (s.enterTb target).timeBase.discipline = s.timeBase.discipline := by
  rcases s.enterTb_cases target with ⟨_, e⟩ | ⟨_, e⟩ <;> rw [e] <;> exact ⟨rfl, rfl, rfl, rfl, rfl⟩

/-- A change of state changes the time base and the notice counts only. -/
theorem State.enterTb_frame (s : State) (target : TimeBaseState) :
    s.enterTb target = { s with timeBase := (s.enterTb target).timeBase, notices := (s.enterTb target).notices } := by
  rcases s.enterTb_cases target with ⟨_, e⟩ | ⟨_, e⟩ <;> rw [e] <;> rfl

/-- A completed computation: slew or step in ACQUIRING; slew, outlier or third outlier in LOCKED; abandoned in any other
state (R14). -/
theorem State.applyDiscipline_cases (s : State) (d : Discipline) :
    (s.timeBase.state = .acquiring ∧ d.slews = true ∧ s.applyDiscipline d = s.slewAcquiring d) ∨
    (s.timeBase.state = .acquiring ∧ d.slews = false ∧ s.applyDiscipline d = s.stepTime d) ∨
    (s.timeBase.state = .locked ∧ d.slews = true ∧ s.applyDiscipline d = s.slewLocked d) ∨
    (s.timeBase.state = .locked ∧ d.slews = false ∧ s.timeBase.outlierRun < 2 ∧
      s.applyDiscipline d = s.outlier d) ∨
    (s.timeBase.state = .locked ∧ d.slews = false ∧ 2 ≤ s.timeBase.outlierRun ∧
      s.applyDiscipline d = (s.stepTime d).enterTb .acquiring) ∨
    (s.timeBase.state ≠ .acquiring ∧ s.timeBase.state ≠ .locked ∧ s.applyDiscipline d = s.abandonDiscipline) := by
  unfold State.applyDiscipline
  cases h : s.timeBase.state <;> cases hs : d.slews <;> simp
  omega

/-- A reference other than this one. -/
theorem otherRef_ne (r : RefId) : otherRef r ≠ r := by
  fin_cases r <;> decide

/-- What the selector does when it is told that a monitor became GOOD (R36, R38). -/
theorem State.selectorBecameGood_cases (s : State) (r : RefId) :
    (s.selected = none ∧ s.selectorBecameGood r = (s.setSelected (some r)).tbSelected) ∨
    ∃ current, s.selected = some current ∧
      ((current ≠ r ∧ s.revertsTo r = true ∧ s.selectorBecameGood r = s.switchTo r) ∨ s.selectorBecameGood r = s) := by
  unfold State.selectorBecameGood
  cases h : s.selected with
  | none => exact .inl ⟨rfl, rfl⟩
  | some current =>
    refine .inr ⟨current, rfl, ?_⟩
    by_cases hc : current ≠ r ∧ s.revertsTo r
    · exact .inl ⟨hc.1, hc.2, by simp only [if_pos hc]⟩
    · exact .inr (by simp only [if_neg hc])

/-- What the selector does when it is told that a monitor left GOOD (R37). -/
theorem State.selectorLeftGood_cases (s : State) (r : RefId) :
    (s.selected ≠ some r ∧ s.selectorLeftGood r = s) ∨
    (s.selected = some r ∧ s.monitors[otherRef r].state = .good ∧ s.selectorLeftGood r = s.switchTo (otherRef r)) ∨
    (s.selected = some r ∧ s.monitors[otherRef r].state ≠ .good ∧
      s.selectorLeftGood r = ((s.setSelected none).abandonDiscipline).tbUnselected) := by
  unfold State.selectorLeftGood
  by_cases h : s.selected = some r
  · by_cases h' : s.monitors[otherRef r].state = .good
    · exact .inr (.inl ⟨h, h', by rw [if_pos h, if_pos h']⟩)
    · exact .inr (.inr ⟨h, h', by rw [if_pos h, if_neg h']⟩)
  · exact .inl ⟨h, by rw [if_neg h]⟩

/-- What the selector does at an accepted pulse (R38, R39). -/
theorem State.selectorAccepted_cases (s : State) (r : RefId) (pulse : AcceptedPulse) :
    s.selectorAccepted r pulse = s ∨
    (s.selected = some r ∧ s.selectorAccepted r pulse = s.startDiscipline r pulse) ∨
    (s.selected ≠ none ∧ s.selectorAccepted r pulse = (s.switchTo r).startDiscipline r pulse) := by
  unfold State.selectorAccepted
  cases h : s.selected with
  | none => exact .inl rfl
  | some current =>
    dsimp only
    split
    · rename_i hc; subst hc; exact .inr (.inl ⟨rfl, rfl⟩)
    · split
      · exact .inr (.inr ⟨by simp, rfl⟩)
      · exact .inl rfl

end Sys2Proof.Machine
end

