-- ==== Sys2Proof/Tests/Slice0.lean ====
section
/-! SUPPORT. Tests of the model: for each statement a state and operands that meet its hypotheses, for each command one
or two steps with the values the spec gives, and the smoke test of the well-formedness check. -/

namespace Sys2Proof.Tests

open Sys2Proof.Machine

-- One theorem after another: a thread for each of the kernel evaluations below asks for more stack than there is.
set_option Elab.async false

/-! ## Helpers -/

/-- The clock runs, at this tick; everything else as after reset. -/
def run (t : Nat) : State := { State.reset with clock := .running, tick := t }

def held : State := { State.reset with clock := .resetHeld }

def withTimeBase (f : TimeBase → TimeBase) (s : State) : State := { s with timeBase := f s.timeBase }

def withMonitor (r : RefId) (f : Monitor → Monitor) (s : State) : State :=
  { s with monitors := s.monitors.set r (f s.monitors[r]) }

def withLine (l : LineId) (f : FeedLine → FeedLine) (s : State) : State := { s with lines := s.lines.set l (f s.lines[l]) }

def withPair (p : PairId) (f : PairArbiter → PairArbiter) (s : State) : State :=
  { s with pairs := s.pairs.set p (f s.pairs[p]) }

def withSequence (c : ChannelId) (q : SequenceState) (s : State) : State :=
  { s with channels := s.channels.set c { s.channels[c] with sequence := q } }

def withDelivery (d : DlineId) (f : DeliveryLine → DeliveryLine) (s : State) : State :=
  { s with deliveries := s.deliveries.set d (f s.deliveries[d]) }

def withTables (f : Tables → Tables) (s : State) : State := { s with tables := f s.tables }

def next (c : Instr) (s : State) : State :=
  match exec c s with
  | .next t => t
  | _ => s

/-- A computation whose error is `e`, at the capture of the spec's slew case, over records at the nominal rate. -/
def computation (e : Int) : Discipline where
  capture := 12800001920
  previousCapture := 6400001280
  labelTime := convert .reset .reset 12800001920 - e
  pulseDelay := 0
  stepThreshold := 1000
  lockLimit := 100
  lockCount := 4
  slewGain := 2
  previous := .reset
  current := .reset

/-- A computation in flight with error `e`, one tick after its pulse, in a state of the time base. -/
def inFlight (e : Int) (st : TimeBaseState) (lockRun outlierRun : Nat) : State :=
  withTimeBase (fun t => { t with
    state := st, lockRun := lockRun, outlierRun := outlierRun, discipline := some (computation e) }) (run 800000121)

/-! ## Witnesses: a concrete state and operands that meet the hypotheses of each statement, clause by clause -/

theorem witness_StepRunsFrontCommand :
    ({ State.reset with pending := [.stampingClockLock, .tick 0] }).pending = .stampingClockLock :: [.tick 0] := rfl

theorem witness_ReleaseTakesResetValues : held.clock = .resetHeld := rfl

theorem witness_PowerOnResetHoldsThePart :
    held.clock = .resetHeld ∧ Instr.tick 3 ≠ .powerOnReset ∧ ∀ straps, Instr.tick 3 ≠ .powerOnResetRelease straps :=
  ⟨rfl, by simp, by simp⟩

theorem witness_ClockStartsTicksCapturesAndTimers :
    State.reset.clock = .awaitingLock ∧ (run 7).clock = .running ∧ State.reset.clock ≠ .running ∧
      ∃ l ph, Instr.startOfFrame 3 2 = .startOfFrame l ph := ⟨rfl, rfl, by decide, 3, 2, rfl⟩

theorem witness_ConversionStampAndRounding :
    let t : TimeBase := { TimeBase.reset with current := ⟨65536, 43980465111040, 10737418241⟩ }
    t.current.effective ≤ 65536 ∧ 65535 < t.current.effective ∧ t.stamp 65536 0 / 256000000000 < 2 ^ 48 ∧
      (0 : Int) < 2 ∧ 2 * (roundHalfAway 1 2 * 2 - 1) = 2 ∧ 2 * (roundHalfAway (-1) 2 * 2 - -1) = -2 := by decide +kernel

theorem witness_SlewKeepsStampsInOrder :
    let t := TimeBase.reset
    let d := computation 1000
    (10735321088 ≤ t.current.rate ∧ t.current.rate ≤ 10739515392) ∧ t.current.effective ≤ d.capture + 65536 ∧
      d.previous = t.previous ∧ d.current = t.current ∧ d.capture + 65535 ≤ d.capture + 65536 := by decide +kernel

/-- The error exactly at the step threshold, then exactly at the lock limit and just above it. -/
theorem witness_SlewCompletes :
    (let s := inFlight (1000 * 2 ^ 32) .locked 4 1
     let d := computation (1000 * 2 ^ 32)
     s.clock = .running ∧ s.timeBase.discipline = some d ∧ d.capture / 16 < s.tick ∧
      d.error.natAbs ≤ d.stepThreshold * 2 ^ 32 ∧ s.timeBase.state = .locked) ∧
    (let s := inFlight (100 * 2 ^ 32 + 1) .acquiring 3 0
     let d := computation (100 * 2 ^ 32 + 1)
     s.clock = .running ∧ s.timeBase.discipline = some d ∧ d.capture / 16 < s.tick ∧
      d.error.natAbs ≤ d.stepThreshold * 2 ^ 32 ∧ s.timeBase.state = .acquiring ∧
      d.lockLimit * 2 ^ 32 < d.error.natAbs) ∧
    (let s := inFlight (-(100 * 2 ^ 32)) .acquiring 2 0
     let d := computation (-(100 * 2 ^ 32))
     s.clock = .running ∧ s.timeBase.discipline = some d ∧ d.capture / 16 < s.tick ∧
      d.error.natAbs ≤ d.stepThreshold * 2 ^ 32 ∧ s.timeBase.state = .acquiring ∧
      d.error.natAbs ≤ d.lockLimit * 2 ^ 32 ∧ s.timeBase.lockRun + 1 < d.lockCount) ∧
    (let s := inFlight (100 * 2 ^ 32) .acquiring 3 0
     let d := computation (100 * 2 ^ 32)
     s.clock = .running ∧ s.timeBase.discipline = some d ∧ d.capture / 16 < s.tick ∧
      d.error.natAbs ≤ d.stepThreshold * 2 ^ 32 ∧ s.timeBase.state = .acquiring ∧
      d.error.natAbs ≤ d.lockLimit * 2 ^ 32 ∧ d.lockCount ≤ s.timeBase.lockRun + 1) := by decide +kernel

/-- The error just above the step threshold, on either side. -/
theorem witness_StepOrOutlierCompletes :
    (let s := inFlight (1000 * 2 ^ 32 + 1) .acquiring 2 0
     let d := computation (1000 * 2 ^ 32 + 1)
     s.clock = .running ∧ s.timeBase.discipline = some d ∧ d.capture / 16 < s.tick ∧
      d.stepThreshold * 2 ^ 32 < d.error.natAbs ∧ s.timeBase.state = .acquiring) ∧
    (let s := inFlight (-(1000 * 2 ^ 32) - 1) .locked 4 1
     let d := computation (-(1000 * 2 ^ 32) - 1)
     s.clock = .running ∧ s.timeBase.discipline = some d ∧ d.capture / 16 < s.tick ∧
      d.stepThreshold * 2 ^ 32 < d.error.natAbs ∧ s.timeBase.state = .locked ∧ s.timeBase.outlierRun < 2) ∧
    (let s := inFlight (-(1000 * 2 ^ 32) - 1) .locked 4 2
     let d := computation (-(1000 * 2 ^ 32) - 1)
     s.clock = .running ∧ s.timeBase.discipline = some d ∧ d.capture / 16 < s.tick ∧
      d.stepThreshold * 2 ^ 32 < d.error.natAbs ∧ s.timeBase.state = .locked ∧
      2 ≤ s.timeBase.outlierRun) := by decide +kernel

/-- In HOLDOVER since tick 1,000, at this tick with this limit. -/
def inHoldover (t limit : Nat) : State :=
  withTables (fun tb => { tb with timebase := { tb.timebase with holdoverLimit := limit } })
    (withTimeBase (fun b => { b with state := .holdover, holdoverEntryTick := 1000 }) (run t))

/-- At the expiry tick itself. -/
theorem witness_HoldoverExpires :
    (let s := inHoldover 800001000 2
     s.clock = .running ∧ s.timeBase.state = .holdover ∧ s.timeBase.holdoverExpired = false ∧
      s.tables.timebase.holdoverLimit ≠ 0 ∧
      s.timeBase.holdoverEntryTick + s.tables.timebase.holdoverLimit * 400000000 ≤ s.tick) ∧
    (let s := inHoldover 800001000 0
     s.clock = .running ∧ s.timeBase.state = .holdover ∧ s.timeBase.holdoverExpired = false ∧
      s.tables.timebase.holdoverLimit = 0) := by decide +kernel

/-- REF0 in a state with a label slot and a reference point, one nominal second before the tick. -/
def pulseCase (st : MonitorState) (slot : Option Label) (count : Nat) : State :=
  withMonitor 0 (fun m => { m with state := st, slot := slot, qualifyCount := count, refPoint := ⟨1600000003, some 1004⟩ })
    (run 500000000)

/-- REF0 with a label slot, the other reference selected, revertive or not. -/
def pulseUnselected (st : MonitorState) (count : Nat) (revertive : Bool) : State :=
  withTables (fun tb => { tb with timebase := { tb.timebase with revertive := revertive } })
    { pulseCase st (some ⟨1005, true⟩) count with selected := some 1 }

/-- The next label, at the far end of the tolerance of 40,000 ticks and one sixteenth beyond it, and at the last good
pulse of the qualification, with nothing selected and with the other reference, kept and switched from. -/
theorem witness_PulseQualifiesMonitor :
    (pulseCase .good (some ⟨1005, true⟩) 0).monitors[0].judges 40000 (1600000003 + 6400000000 + 640000) = true ∧
    (pulseCase .good (some ⟨1005, true⟩) 0).monitors[0].judges 40000 (1600000003 + 6400000000 + 640001) = false ∧
    (let s := pulseCase .absent (some ⟨1005, true⟩) 0
     s.clock = .running ∧ s.tables.reference[0].enabled = true ∧ s.monitors[0].state = .absent ∧
      s.monitors[0].slot ≠ none) ∧
    (let s := pulseCase .absent none 0
     s.clock = .running ∧ s.tables.reference[0].enabled = true ∧ s.monitors[0].state = .absent ∧
      s.monitors[0].slot = none) ∧
    (let s := pulseCase .qualifying (some ⟨1006, true⟩) 5
     s.clock = .running ∧ s.tables.reference[0].enabled = true ∧ s.monitors[0].state = .qualifying ∧
      s.monitors[0].judges s.tables.reference[0].tolerance (s.tick * 16 + 3) = false) ∧
    (let s := pulseCase .qualifying (some ⟨1005, true⟩) 6
     s.clock = .running ∧ s.tables.reference[0].enabled = true ∧ s.monitors[0].state = .qualifying ∧
      s.monitors[0].judges s.tables.reference[0].tolerance (s.tick * 16 + 3) = true ∧
      s.monitors[0].qualifyCount + 1 < s.tables.reference[0].qualifyCount) ∧
    (let s := pulseCase .qualifying (some ⟨1005, true⟩) 7
     s.clock = .running ∧ s.tables.reference[0].enabled = true ∧ s.monitors[0].state = .qualifying ∧
      s.monitors[0].judges s.tables.reference[0].tolerance (s.tick * 16 + 3) = true ∧
      s.tables.reference[0].qualifyCount ≤ s.monitors[0].qualifyCount + 1 ∧ s.selected = none ∧
      s.timeBase.state ≠ .acquiring) ∧
    ∀ revertive : Bool,
      let s := pulseUnselected .qualifying 7 revertive
      s.clock = .running ∧ s.tables.reference[0].enabled = true ∧ s.monitors[0].state = .qualifying ∧
        s.monitors[0].judges s.tables.reference[0].tolerance (s.tick * 16 + 3) = true ∧
        s.tables.reference[0].qualifyCount ≤ s.monitors[0].qualifyCount + 1 ∧ s.selected = some 1 ∧ (1 : RefId) ≠ 0 ∧
        (revertive = true ↔ s.tables.timebase.revertive = true ∧ s.tables.timebase.preferred = 0) := by decide +kernel

theorem witness_PulseOfGoodMonitor :
    (let s : State := { pulseCase .good (some ⟨1005, true⟩) 8 with selected := some 0 }
     s.clock = .running ∧ s.tables.reference[0].enabled = true ∧ s.monitors[0].state = .good ∧
      s.monitors[0].judges s.tables.reference[0].tolerance (s.tick * 16 + 3) = true ∧ s.selected = some 0 ∧
      s.monitors[0].slot = some ⟨1005, true⟩) ∧
    (∀ revertive : Bool,
      let s := pulseUnselected .good 8 revertive
      s.clock = .running ∧ s.tables.reference[0].enabled = true ∧ s.monitors[0].state = .good ∧
        s.monitors[0].judges s.tables.reference[0].tolerance (s.tick * 16 + 3) = true ∧ s.selected = some 1 ∧
        s.monitors[0].slot = some ⟨1005, true⟩ ∧
        (revertive = true ↔ s.tables.timebase.revertive = true ∧ s.tables.timebase.preferred = 0)) ∧
    (let s : State := { pulseCase .good none 8 with selected := some 0 }
     s.clock = .running ∧ s.tables.reference[0].enabled = true ∧ s.monitors[0].state = .good ∧
      s.monitors[0].judges s.tables.reference[0].tolerance (s.tick * 16 + 3) = false) := by decide +kernel

/-- REF0 selected, the time base in a state, REF1 in a state. -/
def selecting (st : TimeBaseState) (other : MonitorState) (revertive : Bool) : State :=
  withTables (fun tb => { tb with timebase := { tb.timebase with revertive := revertive, preferred := 1 } })
    (withMonitor 1 (fun m => { m with state := other })
      (withTimeBase (fun b => { b with state := st }) { run 9 with selected := some 0 }))

theorem witness_SelectorActsByItsTable :
    (selecting .locked .good false).selected ≠ some 1 ∧
    ((selecting .locked .good false).selected = some 0 ∧ (selecting .locked .good false).monitors[otherRef 0].state = .good) ∧
    (let s := selecting .locked .qualifying false
     s.selected = some 0 ∧ s.monitors[otherRef 0].state ≠ .good ∧ s.timeBase.state = .locked) ∧
    (let s := selecting .acquiring .absent false
     s.selected = some 0 ∧ s.monitors[otherRef 0].state ≠ .good ∧ s.timeBase.state = .acquiring) ∧
    (let s := selecting .locked .good true
     s.selected = some 0 ∧ (0 : RefId) ≠ 1 ∧ s.tables.timebase.revertive = true ∧ s.tables.timebase.preferred = 1) ∧
    (let s := selecting .locked .good false
     s.selected = some 0 ∧ (0 : RefId) ≠ 1 ∧ s.tables.timebase.revertive = false) ∧
    (let s := { selecting .locked .good true with selected := some 1 }
     s.selected = some 1 ∧ (1 : RefId) ≠ 0 ∧ s.tables.timebase.revertive = true ∧ s.tables.timebase.preferred ≠ 0) ∧
    (let s := withTables (fun tb => { tb with reference := tb.reference.set 1 ⟨false, 0, 8, 40000⟩ }) (run 9)
     s.clock = .running ∧ s.tables.reference[1].enabled = false) ∧
    (let s := selecting .locked .good true
     s.clock = .running ∧ s.tables.timebase.preferred = 1) := by decide +kernel

/-- A pulse at tick 100, tolerance 40,000: the timeout's own tick. -/
theorem witness_PulseTimeoutExpires (st : MonitorState) :
    let s := withMonitor 1 (fun m => { m with state := st, refPoint := ⟨1607, none⟩ }) (run 400040101)
    s.clock = .running ∧ s.monitors[1].state = st ∧
      s.monitors[1].refPoint.capture / 16 + 400000000 + s.tables.reference[1].tolerance + 1 ≤ s.tick := by
  cases st <;> decide +kernel

/-- The ten bytes of a label message for second 1,004, traceable, before its carriage return. -/
def labelBytes : List Byte := [0x7E, 0x53, 0, 0, 0, 0, 3, 0xEC, 1, 0x43]

def labelCase (receiver : LabelReceiver) : State := withMonitor 0 (fun m => { m with receiver := receiver }) (run 5)

theorem witness_LabelReceiverCollectsAndChecks :
    (labelCase .hunting).clock ≠ .resetHeld ∧ (labelCase .hunting).monitors[0].receiver = .hunting ∧
    ((0x53 : Byte) ≠ 0x7E ∨ false = true) ∧
    ((labelCase (.collecting (labelBytes.take 9))).clock ≠ .resetHeld ∧
      (labelCase (.collecting (labelBytes.take 9))).monitors[0].receiver = .collecting (labelBytes.take 9) ∧
      (labelBytes.take 9).length < 10) ∧
    ((labelCase (.collecting labelBytes)).monitors[0].receiver = .collecting labelBytes ∧ labelBytes.length = 10 ∧
      numAt (labelBytes ++ [0x0D]) 1 1 = 0x53 ∧
      numAt (labelBytes ++ [0x0D]) 9 1 =
        (((labelBytes ++ [0x0D]).drop 1).take 8).foldl (fun a (x : Byte) => a + x.toNat) 0 % 256) ∧
    ¬((0x0A : Byte) = 0x0D) ∧ (labelCase .stopped).monitors[0].receiver = .stopped := by decide +kernel

/-- Line F2 in a link state and a mode, with or without a frame in reception, and with this silence limit. -/
def lineCase (link : LinkState) (mode : LineMode) (frame : Option FrameInReception) (limit : Nat) : State :=
  withTables (fun tb => { tb with line := tb.line.set 2 ⟨0, limit⟩ })
    (withLine 2 (fun f => { f with link := link, mode := mode, reception := frame }) (run 1000))

theorem witness_FeedLinkChanges :
    (let s := lineCase .down .off none 0
     s.clock ≠ .resetHeld ∧ s.lines[2].mode = .off ∧ LinkState.up ≠ s.lines[2].link) ∧
    (let s := lineCase .up .monitor none 0
     s.clock ≠ .resetHeld ∧ s.lines[2].mode ≠ .off ∧ s.lines[2].link = .up ∧ s.lines[2].reception = none) ∧
    (let s := lineCase .up .live (some ⟨15990, []⟩) 7
     s.clock ≠ .resetHeld ∧ s.lines[2].mode ≠ .off ∧ s.lines[2].link = .up ∧ s.lines[2].reception ≠ none) ∧
    (let s := lineCase .down .live none 1
     s.clock ≠ .resetHeld ∧ s.lines[2].mode ≠ .off ∧ s.lines[2].link = .down ∧ s.tables.line[2].silenceLimit ≠ 0) ∧
    (let s := lineCase .down .live none 0
     s.clock ≠ .resetHeld ∧ s.lines[2].mode ≠ .off ∧ s.lines[2].link = .down ∧
      s.tables.line[2].silenceLimit = 0) := by decide +kernel

/-- A frame of `n` bytes with its FCS. -/
def goodBytes (n : Nat) : List Byte := withFcs (List.replicate (n - 4) 0xA5)

set_option maxRecDepth 100000 in
/-- Lengths 63 and 2,049 on either side of the accepted range, and the shortest frame with a receive error and with a
wrong FCS. -/
theorem witness_FramesAreCapturedAndChecked :
    (let s := lineCase .up .monitor none 0
     s.clock = .running ∧ s.lines[2].mode ≠ .off ∧ s.lines[2].link = .up ∧ s.lines[2].reception = none) ∧
    (lineCase .up .off none 0).lines[2].mode = .off ∧
    ((lineCase .down .monitor none 0).clock = .running ∧ (lineCase .down .monitor none 0).lines[2].link = .down) ∧
    (let s := lineCase .up .live (some ⟨15990, []⟩) 0
     s.clock ≠ .resetHeld ∧ s.lines[2].mode ≠ .off ∧ s.lines[2].reception = some ⟨15990, []⟩) ∧
    (List.replicate 63 (0 : Byte)).length < 64 ∧ 2048 < (List.replicate 2049 (0 : Byte)).length ∧
    (64 ≤ (List.replicate 64 (0 : Byte)).length ∧ (List.replicate 64 (0 : Byte)).length ≤ 2048 ∧
      (List.replicate 64 (0 : Byte)).drop 60 ≠ fcs ((List.replicate 64 (0 : Byte)).take 60)) := by decide +kernel

/-- Line F2 LIVE and UP with a frame in reception and this many records in its buffer. -/
def buffered (mode : LineMode) (n : Nat) : State :=
  withLine 2 (fun f => { f with buffer := List.replicate n ⟨[], 2, 15000, 0, 0⟩ }) (lineCase .up mode (some ⟨15990, []⟩) 0)

set_option maxRecDepth 100000 in
/-- The shortest frame, and a buffer one short of full and full. -/
theorem witness_GoodFramesAreStamped :
    (64 ≤ (goodBytes 64).length ∧ (goodBytes 64).length ≤ 2048 ∧
      (goodBytes 64).drop ((goodBytes 64).length - 4) = fcs ((goodBytes 64).take ((goodBytes 64).length - 4))) ∧
    (let s := buffered .monitor 0
     s.clock ≠ .resetHeld ∧ s.lines[2].link = .up ∧ s.lines[2].mode = .monitor ∧ s.lines[2].mode ≠ .off ∧
      s.lines[2].reception = some ⟨15990, []⟩) ∧
    (let s := buffered .live 63
     s.clock ≠ .resetHeld ∧ s.lines[2].link = .up ∧ s.lines[2].mode = .live ∧ s.lines[2].mode ≠ .off ∧
      s.lines[2].reception = some ⟨15990, []⟩ ∧ s.lines[2].buffer.length < 64) ∧
    (let s := buffered .live 64
     s.clock ≠ .resetHeld ∧ s.lines[2].link = .up ∧ s.lines[2].mode = .live ∧ s.lines[2].mode ≠ .off ∧
      s.lines[2].reception = some ⟨15990, []⟩ ∧ 64 ≤ s.lines[2].buffer.length) := by decide +kernel

theorem witness_SilenceTimerExpires :
    (let s := { withLine 2 (fun f => { f with silenceStart := some 1000 }) (lineCase .up .live none 3) with
      tick := 1201000 }
     s.clock = .running ∧ s.lines[2].silenceStart = some 1000 ∧
      1000 + s.tables.line[2].silenceLimit * 400000 ≤ s.tick) ∧
    (let s := lineCase .up .live none 3
     s.clock = .running ∧ s.lines[2].silenceStart = none) := by decide +kernel

/-- Pair P1 with one record on each side, at these captures, one tick after its previous taking. -/
def heads (a b : Nat) : State :=
  withPair 1 (fun x => { x with serviceTick := some 999 })
    (withLine 3 (fun f => { f with buffer := [⟨[], 3, b, 0, 0⟩] })
      (withLine 2 (fun f => { f with buffer := [⟨[], 2, a, 0, 0⟩] }) (run 1000)))

/-- Equal captures take the A side, a lower one the B side. -/
theorem witness_TakingTakesTheEarlierHead :
    (heads 15000 15000).Takes 1 2 ⟨[], 2, 15000, 0, 0⟩ [] ∧ (heads 15001 15000).Takes 1 3 ⟨[], 3, 15000, 0, 0⟩ [] ∧
    ((run 3).clock ≠ .resetHeld ∧ (run 3).lines[sideA 1].buffer = [] ∧ (run 3).lines[sideB 1].buffer = []) := by
  refine ⟨⟨by decide, ?_, by decide +kernel, .inl (by decide +kernel)⟩,
    ⟨by decide, ?_, by decide +kernel, .inr (by decide +kernel)⟩, by decide +kernel⟩
  all_goals
    intro t h
    have h' : some 999 = some t := h
    cases h'
    decide

/-- The key of channel 17 (the spec's worked sequences). -/
def key17 : ChannelKey := 0xE9360C073A98

/-- P1's profile: keys at 0 and 4, sequence number of 8 bytes at 6, count of 2 at 14, big-endian. -/
def profile1 : ProfileEntry := ⟨true, 0, 4, 6, 8, false, 14, 2, false, 1⟩

/-- P1 configured, with channel 17 on it: this gap wait and reset exponent. -/
def configured (gapWait exponent : Nat) (s : State) : State :=
  withTables (fun tb => { tb with
    profile := tb.profile.set 1 profile1
    channel := tb.channel.set 17 ⟨true, 1, key17, gapWait, exponent⟩ }) s

/-- A frame of P1's layout: key, sequence number, count, and four bytes for an FCS that the classifier never reads. -/
def frameOf (key : ChannelKey) (q n : Nat) : List Byte := macField key ++ natBytes 8 q ++ natBytes 2 n ++ [0, 0, 0, 0]

def recordOf (l : LineId) (q n : Nat) : FrameRecord := ⟨frameOf key17 q n, l, 15000, 0, 0⟩

/-- A configured pair with one enabled channel: a sound table. -/
theorem configured_lines_sound : (configured 500 8 (run 1000)).LinesSound := by
  have only17 : ∀ c : ChannelId, (configured 500 8 (run 1000)).tables.channel[c].enabled = true → c = 17 := by
    decide +kernel
  refine ⟨by decide +kernel, by decide +kernel, by decide +kernel, fun c c' h h' _ _ => ?_, by decide +kernel,
    by decide +kernel, by decide +kernel⟩
  rw [only17 c h, only17 c' h']

/-- One byte too few for the count, the fewest bytes that decode, and a key that no channel has. -/
theorem witness_ClassifierFindsTheChannel :
    (configured 500 8 (run 1000)).LinesSound ∧
    (let t := (configured 500 8 (run 1000)).tables
     ¬(14 + 2 + 4 ≤ ((frameOf key17 5 2).drop 1).length) ∧
     (14 + 2 + 4 ≤ (frameOf key17 5 2).length ∧ t.profile[1].countOffset = 14 ∧ t.profile[1].countWidth = 2) ∧
     (t.channel[17].enabled = true ∧ t.channel[17].pair = 1 ∧
      t.channel[17].key =
        BitVec.ofNat 48 (bigEndian (slice (frameOf key17 5 2) 0 4 ++ slice (frameOf key17 5 2) 4 2))) ∧
     ∀ c : ChannelId, t.channel[c].enabled = true → t.channel[c].pair = 1 →
      t.channel[c].key ≠
        BitVec.ofNat 48 (bigEndian (slice (frameOf 0xE9360C073A99 5 2) 0 4 ++ slice (frameOf 0xE9360C073A99 5 2) 4 2))) :=
  ⟨configured_lines_sound, by decide +kernel⟩

def queued (n : Nat) : State :=
  withPair 1 (fun a => { a with queue := List.replicate n ⟨recordOf 2 0 1, none, 0, {}⟩ }) (configured 500 8 (run 1000))

def dropping (s : State) : State :=
  withTables (fun tb => { tb with profile := tb.profile.set 1 { profile1 with dropUnlisted := true } }) s

/-- Both policies for an unlisted frame and an undecodable one; a queue one short of full and full. -/
theorem witness_UnlistedFramesAndDelivery :
    (let s := configured 500 8 (run 1000)
     s.tables.classify 1 (frameOf 0xE9360C073A99 5 2) = .unlisted ∧ s.tables.classify 1 [1, 2, 3] = .undecodable ∧
      s.tables.profile[1].dropUnlisted = false) ∧
    (let s := dropping (configured 500 8 (run 1000))
     s.tables.classify 1 (frameOf 0xE9360C073A99 5 2) = .unlisted ∧ s.tables.classify 1 [1, 2, 3] = .undecodable ∧
      s.tables.profile[1].dropUnlisted = true) ∧
    (queued 127).pairs[1].queue.length < 128 ∧ 128 ≤ (queued 128).pairs[1].queue.length := by decide +kernel

/-- Channel 17 configured, in this sequence state. -/
def inState (gapWait exponent : Nat) (q : SequenceState) : State :=
  withSequence 17 q (configured gapWait exponent (run 1000))

/-- The record is a frame of channel 17 with this number and count, not a heartbeat, and the channel expects `x`. -/
abbrev listed (s : State) (r : FrameRecord) (q n x : Nat) : Prop :=
  s.tables.classify 1 r.bytes = .listed 17 q n ∧ n ≠ 0 ∧ s.channels[17].sequence.expected = some x

/-- No reset: the exponent is 0, or the number is no further behind X than it allows. -/
abbrev noReset (s : State) (q x : Nat) : Prop :=
  s.tables.channel[17].resetExponent = 0 ∨
    -(2 ^ s.tables.channel[17].resetExponent : Int) ≤ offset (8 * s.tables.profile[1].sequenceWidth) q x

abbrev found (s : State) (q : Nat) (kind : FrameKind) : Option TwinEntry :=
  s.pairs[1].window.find? fun e => e.key == (17, q, kind)

abbrev overlapping (s : State) (q n x : Nat) : Prop :=
  ∃ h ∈ s.pairs[1].pool, h.channel = 17 ∧ offset 64 h.s x < offset 64 q x + n ∧ offset 64 q x < offset 64 h.s x + h.n

/-- A first frame; a frame exactly at X; one that starts as far behind X as the reset exponent 8 allows and ends one
beyond it; one with the exponent 0. -/
theorem witness_FirstAndInStepFrames :
    (let s := inState 500 8 .unseen
     s.tables.classify 1 (recordOf 2 1000 3).bytes = .listed 17 1000 3 ∧ s.channels[17].sequence = .unseen) ∧
    (let s := inState 500 8 (.inStep 1000)
     listed s (recordOf 2 1000 1) 1000 1 1000 ∧ noReset s 1000 1000 ∧
      offset 64 1000 1000 ≤ 0 ∧ 0 < offset 64 1000 1000 + 1) ∧
    (let s := inState 500 8 (.gapOpen 1000 201000)
     listed s (recordOf 2 744 257) 744 257 1000 ∧ noReset s 744 1000 ∧
      offset 64 744 1000 ≤ 0 ∧ 0 < offset 64 744 1000 + 257) ∧
    (let s := inState 500 0 (.inStep 1000)
     listed s (recordOf 2 999 2) 999 2 1000 ∧ noReset s 999 1000 ∧
      offset 64 999 1000 ≤ 0 ∧ 0 < offset 64 999 1000 + 2) := by decide +kernel

def heldFrame (q n : Nat) : ListedFrame := ⟨recordOf 2 q n, 17, q, n⟩

def holding (pool : List ListedFrame) (s : State) : State := withPair 1 (fun a => { a with pool := pool }) s

/-- One behind the reset range of exponent 8, with a held frame and without one. -/
theorem witness_SequenceResetRestartsChannel :
    (let s := inState 500 8 (.inStep 1000)
     (listed s (recordOf 2 743 1) 743 1 1000 ∧
      s.tables.channel[17].resetExponent ≠ 0 ∧
      offset (8 * s.tables.profile[1].sequenceWidth) 743 1000 < -(2 ^ s.tables.channel[17].resetExponent : Int)) ∧
     ((∃ e, s.channels[17].sequence = .gapOpen 1000 e) ↔ ∃ f ∈ s.pairs[1].pool, f.channel = 17)) ∧
    (let s := holding [heldFrame 1005 1] (inState 500 8 (.gapOpen 1000 201000))
     (listed s (recordOf 2 743 1) 743 1 1000 ∧
      s.tables.channel[17].resetExponent ≠ 0 ∧
      offset (8 * s.tables.profile[1].sequenceWidth) 743 1000 < -(2 ^ s.tables.channel[17].resetExponent : Int)) ∧
     ((∃ e, s.channels[17].sequence = .gapOpen 1000 e) ↔ ∃ f ∈ s.pairs[1].pool, f.channel = 17)) := by
  refine ⟨⟨by decide +kernel, ⟨fun ⟨e, he⟩ => ?_, fun h => ?_⟩⟩,
    ⟨by decide +kernel, ⟨fun _ => by decide +kernel, fun _ => ⟨201000, by decide +kernel⟩⟩⟩⟩
  · exact absurd (show SequenceState.inStep 1000 = .gapOpen 1000 e from he) (by simp)
  · exact absurd h (by decide +kernel)

/-- The twin window of P1 holds one data entry of channel 17 for this number, from this line. -/
def windowed (q : Nat) (kind : FrameKind) (l : LineId) (s : State) : State :=
  withPair 1 (fun a => { a with window := [⟨17, q, kind, l, 0⟩] }) s

/-- A frame that ends exactly at X, found from the other line, from its own, and not found. -/
theorem witness_OldFrameIsTwinRepeatOrLate :
    (let s := windowed 998 .data 3 (inState 500 8 (.inStep 1000))
     listed s (recordOf 2 998 2) 998 2 1000 ∧ noReset s 998 1000 ∧ offset 64 998 1000 + 2 ≤ 0 ∧
      found s 998 .data = some ⟨17, 998, .data, 3, 0⟩ ∧ (3 : LineId) ≠ (recordOf 2 998 2).line) ∧
    (let s := windowed 998 .data 2 (inState 500 0 (.inStep 1000))
     listed s (recordOf 2 998 2) 998 2 1000 ∧ noReset s 998 1000 ∧ offset 64 998 1000 + 2 ≤ 0 ∧
      found s 998 .data = some ⟨17, 998, .data, 2, 0⟩ ∧ (2 : LineId) = (recordOf 2 998 2).line) ∧
    (let s := inState 500 8 (.inStep 1000)
     listed s (recordOf 2 744 1) 744 1 1000 ∧ noReset s 744 1000 ∧ offset 64 744 1000 + 1 ≤ 0 ∧
      found s 744 .data = none) := by decide +kernel

/-- One beyond X: found from the other line and from its own, in conflict with the frame held just above it, given up,
and held with one place left, by a channel IN_STEP and by one GAP_OPEN. -/
theorem witness_AheadFrameIsDiscardedGivenUpOrHeld :
    (let s := windowed 1001 .data 3 (inState 500 8 (.inStep 1000))
     listed s (recordOf 2 1001 2) 1001 2 1000 ∧ 0 < offset (8 * s.tables.profile[1].sequenceWidth) 1001 1000 ∧
      found s 1001 .data = some ⟨17, 1001, .data, 3, 0⟩ ∧ (3 : LineId) ≠ (recordOf 2 1001 2).line) ∧
    (let s := windowed 1001 .data 2 (inState 500 8 (.inStep 1000))
     listed s (recordOf 2 1001 2) 1001 2 1000 ∧ 0 < offset 64 1001 1000 ∧
      found s 1001 .data = some ⟨17, 1001, .data, 2, 0⟩ ∧ (2 : LineId) = (recordOf 2 1001 2).line) ∧
    (let s := holding [heldFrame 1002 1] (inState 500 8 (.gapOpen 1000 201000))
     listed s (recordOf 2 1001 2) 1001 2 1000 ∧ 0 < offset 64 1001 1000 ∧ found s 1001 .data = none ∧
      overlapping s 1001 2 1000) ∧
    (let s := inState 0 8 (.inStep 1000)
     listed s (recordOf 2 1001 2) 1001 2 1000 ∧ 0 < offset 64 1001 1000 ∧ found s 1001 .data = none ∧
      ¬overlapping s 1001 2 1000 ∧ s.tables.channel[17].gapWait = 0) ∧
    (let s := holding (List.replicate 127 { heldFrame 5 1 with channel := 9 }) (inState 1 8 (.inStep 1000))
     listed s (recordOf 2 1001 2) 1001 2 1000 ∧ 0 < offset 64 1001 1000 ∧ found s 1001 .data = none ∧
      ¬overlapping s 1001 2 1000 ∧ s.tables.channel[17].gapWait ≠ 0 ∧ s.pairs[1].pool.length < 128 ∧
      s.channels[17].sequence = .inStep 1000) ∧
    (let s := holding ((List.range 127).map fun i => heldFrame (1003 + i) 1) (inState 1 8 (.gapOpen 1000 1400))
     listed s (recordOf 2 1001 2) 1001 2 1000 ∧ 0 < offset 64 1001 1000 ∧ found s 1001 .data = none ∧
      ¬overlapping s 1001 2 1000 ∧ s.tables.channel[17].gapWait ≠ 0 ∧ s.pairs[1].pool.length < 128 ∧
      s.channels[17].sequence = .gapOpen 1000 1400) := by decide +kernel

/-- A frame of channel 9, held. -/
def otherFrame : ListedFrame := { heldFrame 5 1 with channel := 9 }

/-- The lowest held frame ending at X, ending one beyond it, starting at it and one beyond it, and none held; an oldest
wait among two channels with the same gap-open tick; a full pool, and a frame that has to be held. -/
theorem witness_ReleaseStopsAtGapsOrEmpties :
    (∀ q ∈ [998, 999, 1000, 1001],
      let s := holding ([otherFrame] ++ heldFrame q 2 :: [otherFrame]) (inState 500 8 (.gapOpen 1000 201000))
      s.pairs[1].pool = [otherFrame] ++ heldFrame q 2 :: [otherFrame] ∧ (heldFrame q 2).channel = 17 ∧
        (∀ g ∈ [otherFrame], g.channel ≠ 17) ∧ offset (s.width 1) (heldFrame q 2).s (s.expectedOf 17) = (q : Int) - 1000) ∧
    (∀ f ∈ (holding [otherFrame] (inState 500 8 (.gapOpen 1000 201000))).pairs[1].pool, f.channel ≠ 17) ∧
    (let s := holding [heldFrame 1005 1, otherFrame] (inState 500 8 (.gapOpen 1000 201000))
     (∃ f ∈ s.pairs[1].pool, f.channel = 9) ∧ ∀ g ∈ s.pairs[1].pool, g.channel ≠ 9 →
      s.channels[(9 : ChannelId)].gapOpenTick < s.channels[g.channel].gapOpenTick ∨
        (s.channels[(9 : ChannelId)].gapOpenTick = s.channels[g.channel].gapOpenTick ∧ 9 < g.channel)) ∧
    (let s := holding ((List.range 128).map fun i => heldFrame (1002 + 2 * i) 1) (inState 500 8 (.gapOpen 1000 201000))
     s.pairs[1].pool.length = 128 ∧ s.examineData 1 (heldFrame 2000 1) = none) := by
  refine ⟨by decide +kernel, by decide +kernel, by decide +kernel, by decide +kernel, ?_⟩
  rw [← Option.isNone_iff_eq_none]
  decide +kernel

/-- One tick before the expiry and at it, a frame of another channel held before and after the one of channel 17, which is
the only one of its channel or has another beyond a further gap. -/
theorem witness_GapTimerExpires :
    (let s := { inState 500 8 (.gapOpen 1000 201000) with tick := 200999 }
     s.clock = .running ∧ s.tables.channel[17].enabled = true ∧ s.tables.channel[17].pair = 1 ∧
      s.channels[17].sequence = .gapOpen 1000 201000 ∧ s.tick < 201000) ∧
    (∀ after ∈ [[otherFrame], [otherFrame, heldFrame 1007 1]],
      let s := { holding ([otherFrame] ++ heldFrame 1005 1 :: after) (inState 500 8 (.gapOpen 1000 201000)) with
        tick := 201000 }
      s.clock = .running ∧ s.tables.channel[17].enabled = true ∧ s.tables.channel[17].pair = 1 ∧
        s.channels[17].sequence = .gapOpen 1000 201000 ∧ 201000 ≤ s.tick ∧
        s.pairs[1].pool = [otherFrame] ++ heldFrame 1005 1 :: after ∧ (heldFrame 1005 1).channel = 17 ∧
        (∀ g ∈ [otherFrame], g.channel ≠ 17) ∧
        ((∃ g ∈ (s.expiryStep 1 17).pairs[1].pool, g.channel = 17) ↔ after ≠ [otherFrame])) ∧
    ∀ g ∈ [otherFrame] ++ [otherFrame], g.channel ≠ 17 := by decide +kernel

/-- A heartbeat found from the other line and from its own, of an UNSEEN channel, at X and one ahead of X. -/
theorem witness_HeartbeatNeverMovesX :
    (let s := windowed 1000 .beat 3 (inState 500 8 (.inStep 1000))
     s.tables.classify 1 (recordOf 2 1000 0).bytes = .listed 17 1000 0 ∧
      found s 1000 .beat = some ⟨17, 1000, .beat, 3, 0⟩ ∧ (3 : LineId) ≠ (recordOf 2 1000 0).line) ∧
    (let s := windowed 1000 .beat 3 (inState 500 8 (.inStep 1000))
     s.tables.classify 1 (recordOf 3 1000 0).bytes = .listed 17 1000 0 ∧
      found s 1000 .beat = some ⟨17, 1000, .beat, 3, 0⟩ ∧ (3 : LineId) = (recordOf 3 1000 0).line) ∧
    (let s := inState 500 8 .unseen
     s.tables.classify 1 (recordOf 2 1000 0).bytes = .listed 17 1000 0 ∧ found s 1000 .beat = none ∧
      s.channels[17].sequence = .unseen) ∧
    (let s := windowed 1001 .data 2 (inState 500 8 (.inStep 1000))
     s.tables.classify 1 (recordOf 2 1001 0).bytes = .listed 17 1001 0 ∧ found s 1001 .beat = none ∧
      s.channels[17].sequence.expected = some 1000) := by decide +kernel

/-- A window of this many entries of channel 17, numbered from 0. -/
def windowOf (n : Nat) : List TwinEntry := (List.range n).map fun i => ⟨17, i, .data, 2, 0⟩

/-- The same key in the middle, a window one short of full and full, and a copy from either side. -/
theorem witness_TwinWindowAndLag :
    (windowOf 3 = windowOf 1 ++ ⟨17, 1, .data, 2, 0⟩ :: [⟨17, 2, .data, 2, 0⟩] ∧
      (⟨17, 1, .data, 2, 0⟩ : TwinEntry).key = (⟨17, 1, .data, 3, 77⟩ : TwinEntry).key ∧
      ∀ g ∈ windowOf 1, g.key ≠ (⟨17, 1, .data, 3, 77⟩ : TwinEntry).key) ∧
    ((∀ g ∈ windowOf 63, g.key ≠ (⟨17, 63, .data, 3, 0⟩ : TwinEntry).key) ∧ (windowOf 63).length < 64) ∧
    ((∀ g ∈ windowOf 64, g.key ≠ (⟨17, 64, .data, 3, 0⟩ : TwinEntry).key) ∧ 64 ≤ (windowOf 64).length ∧
      windowOf 64 = ⟨17, 0, .data, 2, 0⟩ :: (windowOf 64).tail) ∧
    ((⟨17, 1, .data, 2, 0⟩ : TwinEntry).line = sideA 1 ∧ (⟨17, 1, .data, 3, 0⟩ : TwinEntry).line = sideB 1) ∧
    (LagStats.empty.samples = 0 ∧ (LagStats.empty.sample (-3)).samples ≠ 0) := by decide +kernel

def entry0 : DeliveryEntry := ⟨recordOf 2 304 2, none, 0, {}⟩

/-- D0 idle, with an entry of P0 and of P2 (the pairs of D0), a reply, and a notice in the slot, as told. -/
def offering (feed reply notice rotating : Bool) : State :=
  let s := run 1000
  let s := if feed then withPair 0 (fun a => { a with queue := [entry0] }) (withPair 2 (fun a => { a with queue := [entry0] }) s) else s
  let s := if reply then withDelivery 0 (fun x => { x with replies := [⟨[1], false⟩] }) s else s
  let s := if notice then { s with notices := { s.notices with slot := some [2] } } else s
  withTables (fun tb => { tb with delivery := tb.delivery.set 0 ⟨0, rotating⟩ }) s

/-- Each group as the first that holds a frame, none of them, and a busy transmitter; both orders of the pairs, P0 and P2
ready and P3 last served. -/
theorem witness_OutputArbiterChooses :
    (withDelivery 0 (fun x => { x with transmitter := .sending ⟨.feed, [], none, true⟩ })
      (offering true true true true)).deliveries[0].transmitter ≠ .idle ∧
    (∀ g ∈ [TransmitKind.feed, .reply, .notice], (offering false false false true).groupHolds 0 g = false) ∧
    (let s := offering true true true true
     s.deliveries[0].transmitter = .idle ∧ groupOrder s.tables.delivery[0].groupOrder = [] ++ .feed :: [.reply, .notice] ∧
      s.groupHolds 0 .feed = true) ∧
    (let s := offering false true true true
     s.deliveries[0].transmitter = .idle ∧ groupOrder s.tables.delivery[0].groupOrder = [.feed] ++ .reply :: [.notice] ∧
      s.groupHolds 0 .feed = false ∧ s.groupHolds 0 .reply = true) ∧
    (let s := offering false false true true
     s.deliveries[0].transmitter = .idle ∧ groupOrder s.tables.delivery[0].groupOrder = [.feed, .reply] ++ .notice :: [] ∧
      s.groupHolds 0 .feed = false ∧ s.groupHolds 0 .reply = false ∧ s.groupHolds 0 .notice = true) ∧
    (let s := offering true false false false
     s.tables.delivery[0].rotating = false ∧ s.tables.profile[0].deliveryLine = 0 ∧ s.pairs[0].queue ≠ [] ∧
      s.tables.profile[2].deliveryLine = 0 ∧ s.pairs[2].queue ≠ []) ∧
    (let s := offering true false false true
     s.tables.delivery[0].rotating = true ∧ s.deliveries[0].lastPairServed = 3) := by decide +kernel

/-- D0 at this tick with this transmitter. -/
def transmitting (t : Nat) (x : Transmitter) : State :=
  withDelivery 0 (fun line => { line with transmitter := x }) (run t)

/-- A transmission of 64 bytes (26 whole ticks) that started at tick 1,000. -/
def sixtyFour (kind : TransmitKind) : Transmission := ⟨kind, List.replicate 64 0, some 1000, true⟩

/-- At the last tick of the wire time and one before it. -/
theorem witness_TransmissionsComplete (kind : TransmitKind) :
    (let s := transmitting 1026 (.sending (sixtyFour kind))
     s.clock ≠ .resetHeld ∧ s.deliveries[0].transmitter = .sending (sixtyFour kind) ∧ (sixtyFour kind).kind = kind ∧
      (sixtyFour kind).started = some 1000 ∧
      (1000 : Int) + (((sixtyFour kind).bytes.length + 20) * 8 / 25 : Nat) ≤ (s.tick : Int)) ∧
    (let s := transmitting 1026 (.discarding (sixtyFour kind))
     s.clock ≠ .resetHeld ∧ s.deliveries[0].transmitter = .discarding (sixtyFour kind) ∧
      (1000 : Int) + (((sixtyFour kind).bytes.length + 20) * 8 / 25 : Nat) ≤ (s.tick : Int)) ∧
    (let s := transmitting 1025 (.sending (sixtyFour kind))
     s.clock ≠ .resetHeld ∧ s.deliveries[0].transmitter = .sending (sixtyFour kind) ∧
      (s.tick : Int) < 1000 + (((sixtyFour kind).bytes.length + 20) * 8 / 25 : Nat)) ∧
    (transmitting 1026 .idle).deliveries[0].transmitter = .idle := by
  cases kind <;> decide +kernel

/-- D0 with this link and transmitter. -/
def linked (link : LinkState) (x : Transmitter) : State :=
  withDelivery 0 (fun line => { line with link := link, transmitter := x }) (run 1000)

theorem witness_DeliveryLinkChanges :
    (let s := linked .down (.discarding (sixtyFour .feed))
     s.clock ≠ .resetHeld ∧ s.deliveries[0].link = .down) ∧
    (let s := linked .up .idle
     s.clock ≠ .resetHeld ∧ s.deliveries[0].link = .up ∧ s.deliveries[0].transmitter = .idle) ∧
    (let s := linked .up (.sending (sixtyFour .reply))
     s.clock ≠ .resetHeld ∧ s.deliveries[0].link = .up ∧
      s.deliveries[0].transmitter = .sending (sixtyFour .reply)) := by decide +kernel

/-- A request entry: kind, argument length, arguments (R149). -/
def entryOf (kind : Byte) (args : List Byte) : List Byte := kind :: (natBytes 2 args.length ++ args)

/-- A command frame to this address, from 0A-0B-0C-0D-0E-0F with token 7, with its FCS. -/
def commandTo (destination : Mac) (count : Nat) (entries : List Byte) : List Byte :=
  withFcs (padFrame (macField destination ++ macField 0x0A0B0C0D0E0F ++ [0x88, 0xB5, 0x4F, 0x43, 1, 0] ++ natBytes 2 7 ++
    natBytes 1 count ++ entries))

/-- The unit busy with a RESTART, and this many commands in its inbox. -/
def inboxOf (n : Nat) : State :=
  { linked .up .idle with inbox := List.replicate n ⟨[], 1, false⟩, unit := .restartPending }

/-- The frame is a command to the station address of straps 0 or to everyone. -/
abbrev isCommand (s : State) (bytes : List Byte) : Prop :=
  64 ≤ bytes.length ∧ bytes.length ≤ 2048 ∧ bytes.drop (bytes.length - 4) = fcs (bytes.take (bytes.length - 4)) ∧
    slice bytes 12 2 = [0x88, 0xB5] ∧ slice bytes 14 3 = [0x4F, 0x43, 0x01] ∧
    (macAt bytes 0 = stationAddress s.strapLatch ∨ macAt bytes 0 = 0xFFFFFFFFFFFF)

set_option maxRecDepth 100000 in
/-- The shortest command, to the station and to everyone; one to another station; an inbox one short of full and full. -/
theorem witness_ReceiveFilterKeepsCommands :
    (linked .down .idle).deliveries[0].link = .down ∧
    (let s := inboxOf 3
     s.clock ≠ .resetHeld ∧ s.deliveries[0].link = .up ∧ s.deliveries[0].reception = none ∧ s.inbox.length < 4 ∧
      isCommand s (commandTo 0x024F434C8400 1 (entryOf 1 [])) ∧ isCommand s (commandTo 0xFFFFFFFFFFFF 1 (entryOf 1 []))) ∧
    (let s := inboxOf 4
     s.clock ≠ .resetHeld ∧ s.deliveries[0].link = .up ∧ s.deliveries[0].reception = none ∧ 4 ≤ s.inbox.length ∧
      ¬isCommand s (commandTo 0x024F434C8401 1 (entryOf 1 [])) ∧ ¬isCommand s (List.replicate 63 0)) := by decide +kernel

/-- A frame of nothing but its FCS. -/
theorem witness_FeedFrameCarriesTrailer :
    4 ≤ (⟨⟨[1, 2, 3, 4], 2, 0, 0, 3⟩, some ⟨17, 304, 2⟩, 4, {}⟩ : DeliveryEntry).record.bytes.length := by decide

/-- Sources LINK_CHANGE of F0 (level 1) and GAP_LOST of P0 (level 2) pending, notices on or off. -/
def pendingTwo (enable : Bool) (masks : Vector Bool 4) (ranks : Vector Nat 4) : State :=
  let s := (run 1000).raise 8 |>.raise 34
  withTables (fun tb => { tb with notice := { tb.notice with globalEnable := enable, masks := masks, ranks := ranks } }) s

/-- Two levels ready with equal ranks; off; every ready level masked; a spacing timer at its expiry tick. -/
theorem witness_NoticesAreRaisedBuiltAndSpaced :
    (let s := pendingTwo true #v[false, false, false, false] #v[0, 2, 2, 3]
     let ready (v : Fin 4) : Prop := s.tables.notice.masks[v] = false ∧ ∃ id, sourceLevel id = v ∧ s.notices.counts[id] ≠ 0
     s.tables.notice.globalEnable = true ∧ s.notices.slot = none ∧ s.notices.spacingStart = none ∧ ready 1 ∧ ready 2 ∧
      ∀ v, ready v → v ≠ 1 → s.tables.notice.ranks[(1 : Fin 4)] < s.tables.notice.ranks[v] ∨
        (s.tables.notice.ranks[(1 : Fin 4)] = s.tables.notice.ranks[v] ∧ 1 < v)) ∧
    (pendingTwo false #v[false, false, false, false] #v[0, 1, 2, 3]).tables.notice.globalEnable = false ∧
    (let s := pendingTwo true #v[false, true, true, false] #v[0, 1, 2, 3]
     ∀ id : Fin 52, s.notices.counts[id] ≠ 0 → s.tables.notice.masks[sourceLevel id] = true) ∧
    (let s := { run 401000 with notices := { NoticeUnit.reset with spacingStart := some 1000 } }
     s.clock = .running ∧ s.notices.spacingStart = some 1000 ∧ 1000 + s.tables.notice.spacing * 400 ≤ s.tick) ∧
    (run 5).notices.spacingStart = none ∧
    (let s := withDelivery 1 (fun x => { x with transmitter := .sending (sixtyFour .feed) })
      (linked .up (.sending (sixtyFour .feed)))
     s.tables.notice.globalEnable = false ∧ ∀ d : DlineId, s.deliveries[d].transmitter ≠ .idle) := by decide +kernel

/-! ### Requests -/

/-- A command of one request, its last. -/
def cmd (kind : Byte) (args : List Byte) : CommandInFlight :=
  ⟨0, false, 0x0A0B0C0D0E0F, 7, false, [⟨kind, args⟩], [], 0, false⟩

/-- The unit is executing that command. -/
def serving (kind : Byte) (args : List Byte) (s : State) : State := { s with unit := .executing (cmd kind args) }

theorem serving_holds {kind : Byte} {args : List Byte} {s : State} {a : Action} (hs : s.clock ≠ .resetHeld)
    (h : (cmd kind args).current = some a) : (serving kind args s).Serving (cmd kind args) a := ⟨hs, rfl, h⟩

theorem witness_IdentifyAndTimeReads :
    (serving 1 [] (run 1000)).Serving (cmd 1 []) .identify ∧ (serving 2 [] (run 1000)).Serving (cmd 2 []) .readTime ∧
      (serving 3 [1] (run 1000)).Serving (cmd 3 [1]) (.readReference 1) :=
  ⟨serving_holds (by decide) (by decide), serving_holds (by decide) (by decide), serving_holds (by decide) (by decide)⟩

/-- The last thing of each scope, with and without clear. -/
theorem witness_CounterReads :
    (serving 4 [0, 7, 1] (run 1000)).Serving (cmd 4 [0, 7, 1]) (.readCountersLine 7 true) ∧
      (serving 4 [1, 3, 0] (run 1000)).Serving (cmd 4 [1, 3, 0]) (.readCountersPair 3 false) ∧
      (serving 4 [2, 1, 1] (run 1000)).Serving (cmd 4 [2, 1, 1]) (.readCountersDelivery 1 true) :=
  ⟨serving_holds (by decide) (by decide), serving_holds (by decide) (by decide), serving_holds (by decide) (by decide)⟩

/-- The last sixteen channels, P3, and every notice source. -/
theorem witness_ChannelLagAndNoticeReads :
    (240 + 16 ≤ 256 ∧ (serving 5 [240, 16] (run 1000)).Serving (cmd 5 [240, 16]) (.readChannels 240 16)) ∧
      (serving 6 [3, 1] (run 1000)).Serving (cmd 6 [3, 1]) (.readLag 3 true) ∧
      (serving 7 [0] (run 1000)).Serving (cmd 7 [0]) (.readNotices false) :=
  ⟨⟨by decide, serving_holds (by decide) (by decide)⟩, serving_holds (by decide) (by decide),
    serving_holds (by decide) (by decide)⟩

/-- Entries at an end of their ranges. -/
def lineBytes : List Byte := natBytes 4 16777215 ++ natBytes 4 65535
def profileBytes : List Byte :=
  [1] ++ natBytes 2 2044 ++ natBytes 2 2046 ++ natBytes 2 2040 ++ [8, 1] ++ natBytes 2 2046 ++ [2, 1, 1]
def channelBytes : List Byte := [1, 3] ++ macField key17 ++ natBytes 2 65535 ++ [31]
def referenceBytes : List Byte := [1] ++ natBytes 4 16777215 ++ [2] ++ natBytes 2 16
def timebaseBytes : List Byte := natBytes 4 1000000 ++ natBytes 4 10 ++ [15, 4] ++ natBytes 4 65535 ++ [1, 1]
def noticeBytes : List Byte := [1, 0, 1, 0, 1, 3, 0, 3, 0] ++ natBytes 2 65535 ++ [1] ++ macField 0x0A0B0C0D0E0F
def deliveryBytes : List Byte := [5, 0]

theorem witness_TableReadReturnsEntries :
    (240 + 16 ≤ TableId.channel.entries ∧
      (serving 0x10 [2, 0, 240, 16] (run 1000)).Serving (cmd 0x10 [2, 0, 240, 16]) (.tableRead .channel 240 16)) ∧
    (lineBytes.length = 8 ∧ (LineEntry.ofBytes lineBytes).wasClamped lineBytes = false) ∧
    (profileBytes.length = 14 ∧ (ProfileEntry.ofBytes profileBytes).isSome) ∧
    (channelBytes.length = 11 ∧ ∃ e ∈ ChannelEntry.ofBytes channelBytes, e.resetExponent = numAt channelBytes 10 1) ∧
    (referenceBytes.length = 8 ∧ ∃ e ∈ ReferenceEntry.ofBytes referenceBytes, e.wasClamped referenceBytes = false) ∧
    (timebaseBytes.length = 16 ∧ ∃ e ∈ TimebaseEntry.ofBytes timebaseBytes, e.wasClamped timebaseBytes = false) ∧
    (noticeBytes.length = 18 ∧ (NoticeEntry.ofBytes noticeBytes).isSome ∧ noticeClamped noticeBytes = false) ∧
    (deliveryBytes.length = 2 ∧ (DeliveryTableEntry.ofBytes deliveryBytes).isSome) :=
  ⟨⟨by decide, serving_holds (by decide) (by decide)⟩, by decide +kernel⟩

/-! ### Table writes -/

/-- A TABLE_WRITE of one entry: table number, index, bytes. -/
def writeArgs (table index : Nat) (bs : List Byte) : List Byte := natBytes 1 table ++ natBytes 2 index ++ bs

def writing (table index : Nat) (bs : List Byte) (s : State) : State := serving 0x11 (writeArgs table index bs) s

def writeCmd (table index : Nat) (bs : List Byte) : CommandInFlight := cmd 0x11 (writeArgs table index bs)

theorem writing_holds {table index : Nat} {bs : List Byte} {s : State} {t : TableId} (hs : s.clock ≠ .resetHeld)
    (h : (writeCmd table index bs).current = some (.tableWrite t index [bs])) :
    (writing table index bs s).WritingEntry (writeCmd table index bs) t [bs] index bs := ⟨index, ⟨hs, rfl, h⟩, rfl, rfl⟩

/-- A LINE entry with this limit. -/
def limitBytes (limit : Nat) : List Byte := natBytes 4 16777216 ++ natBytes 4 limit

/-- Line F2 UP and LIVE (or as told), with this silence timer and condition, at this tick. -/
def silentCase (mode : LineMode) (start : Option Nat) (silent : Bool) (t : Nat) : State :=
  { withLine 2 (fun f => { f with silenceStart := start, silent := silent }) (lineCase .up mode none 5) with tick := t }

/-- The first index past the table; a new point one tick ahead and reached; the limit taken away, brought in, and held
where the line is OFF. -/
theorem witness_LineEntryWrites :
    ((writing 0 8 (limitBytes 3) (run 9)).WritingEntry (writeCmd 0 8 (limitBytes 3)) .line [limitBytes 3] 8
      (limitBytes 3) ∧ 8 ≤ 8) ∧
    (let s := writing 0 2 (limitBytes 3) (silentCase .live (some 1000) false 1200999)
     s.WritingEntry (writeCmd 0 2 (limitBytes 3)) .line [limitBytes 3] 2 (limitBytes 3) ∧
      s.lines[2].silenceStart = some 1000 ∧ s.tick < 1000 + min (numAt (limitBytes 3) 4 4) 65535 * 400000) ∧
    (let s := writing 0 2 (limitBytes 3) (silentCase .live (some 1000) false 1201000)
     s.WritingEntry (writeCmd 0 2 (limitBytes 3)) .line [limitBytes 3] 2 (limitBytes 3) ∧
      s.lines[2].silenceStart = some 1000 ∧ 1000 + min (numAt (limitBytes 3) 4 4) 65535 * 400000 ≤ s.tick) ∧
    (let s := writing 0 2 (limitBytes 0) (silentCase .live (some 1000) false 1001)
     s.WritingEntry (writeCmd 0 2 (limitBytes 0)) .line [limitBytes 0] 2 (limitBytes 0) ∧
      s.lines[2].silenceStart ≠ none ∧ min (numAt (limitBytes 0) 4 4) 65535 = 0) ∧
    (let s := writing 0 2 (limitBytes 65536) (silentCase .live none false 1001)
     s.WritingEntry (writeCmd 0 2 (limitBytes 65536)) .line [limitBytes 65536] 2 (limitBytes 65536) ∧
      s.lines[2].silenceStart = none ∧ s.lines[2].silent = false ∧ min (numAt (limitBytes 65536) 4 4) 65535 ≠ 0 ∧
      s.lines[2].link = .up ∧ s.lines[2].mode ≠ .off) ∧
    (let s := writing 0 2 (limitBytes 1) (silentCase .live none true 1001)
     s.WritingEntry (writeCmd 0 2 (limitBytes 1)) .line [limitBytes 1] 2 (limitBytes 1) ∧
      s.lines[2].silenceStart = none ∧ s.lines[2].silent = true ∧ min (numAt (limitBytes 1) 4 4) 65535 ≠ 0) ∧
    (let s := writing 0 2 (limitBytes 0) (silentCase .live none true 1001)
     s.WritingEntry (writeCmd 0 2 (limitBytes 0)) .line [limitBytes 0] 2 (limitBytes 0) ∧
      s.lines[2].silenceStart = none ∧ s.lines[2].silent = true ∧ min (numAt (limitBytes 0) 4 4) 65535 = 0) ∧
    (let s := writing 0 2 (limitBytes 1) (silentCase .off none false 1001)
     s.WritingEntry (writeCmd 0 2 (limitBytes 1)) .line [limitBytes 1] 2 (limitBytes 1) ∧
      s.lines[2].silenceStart = none ∧ s.lines[2].silent = false ∧ s.lines[2].mode = .off) := by
  refine ⟨⟨?_, by decide⟩, ⟨?_, ?_⟩, ⟨?_, ?_⟩, ⟨?_, ?_⟩, ⟨?_, ?_⟩, ⟨?_, ?_⟩, ⟨?_, ?_⟩, ⟨?_, ?_⟩⟩
  all_goals first | exact writing_holds (by decide) (by decide +kernel) | decide +kernel

/-- P1 with this mode on its B side. -/
def pairCase (mode : LineMode) : State := withLine 3 (fun f => { f with mode := mode }) (run 1000)

/-- The good entry at the ends of its ranges, one past an end, a LIVE line, and the first index past the table. -/
theorem witness_ProfileEntryWrites :
    ((writing 1 4 profileBytes (run 9)).WritingEntry (writeCmd 1 4 profileBytes) .profile [profileBytes] 4 profileBytes ∧
      4 ≤ 4) ∧
    (let s := writing 1 1 profileBytes (pairCase .live)
     s.WritingEntry (writeCmd 1 1 profileBytes) .profile [profileBytes] 1 profileBytes ∧
      s.lines[sideB 1].mode = .live) ∧
    (let bs := profileBytes.set 2 0xFD
     let s := writing 1 1 bs (pairCase .monitor)
     s.WritingEntry (writeCmd 1 1 bs) .profile [bs] 1 bs ∧ s.lines[sideA 1].mode ≠ .live ∧ s.lines[sideB 1].mode ≠ .live ∧
      2044 < numAt bs 1 2) ∧
    (let s := writing 1 1 profileBytes (pairCase .monitor)
     s.WritingEntry (writeCmd 1 1 profileBytes) .profile [profileBytes] 1 profileBytes ∧ s.lines[sideA 1].mode ≠ .live ∧
      s.lines[sideB 1].mode ≠ .live ∧ numAt profileBytes 1 2 = 2044 ∧ numAt profileBytes 3 2 = 2046 ∧
      numAt profileBytes 5 2 = 2040 ∧ numAt profileBytes 7 1 = 8 ∧ numAt profileBytes 9 2 = 2046 ∧
      numAt profileBytes 11 1 = 2 ∧
      ∀ o ∈ [0, 8, 12, 13], numAt profileBytes o 1 ≤ 1) := by
  refine ⟨⟨?_, by decide⟩, ⟨?_, ?_⟩, ⟨?_, ?_⟩, ⟨?_, ?_⟩⟩
  all_goals first | exact writing_holds (by decide) (by decide +kernel) | decide +kernel

/-- An enabled CHANNEL entry of P1 with channel 17's key. -/
def channelCase : List Byte := [1, 1] ++ macField key17 ++ natBytes 2 500 ++ [8]

/-- The first index past the table; pair 4; an enabled entry of a pair with a LIVE line; another entry's key; its own. -/
theorem witness_ChannelEntryWrites :
    ((writing 2 256 channelCase (run 9)).WritingEntry (writeCmd 2 256 channelCase) .channel [channelCase] 256
      channelCase ∧ 256 ≤ 256) ∧
    (let bs := channelCase.set 1 4
     (writing 2 255 bs (run 9)).WritingEntry (writeCmd 2 255 bs) .channel [bs] 255 bs ∧ 3 < numAt bs 1 1) ∧
    (let s := writing 2 255 channelCase (pairCase .live)
     s.WritingEntry (writeCmd 2 255 channelCase) .channel [channelCase] 255 channelCase ∧ numAt channelCase 0 1 = 1 ∧
      numAt channelCase 1 1 = (1 : PairId).val ∧ s.lines[sideB 1].mode = .live) ∧
    (let s := writing 2 255 channelCase (configured 500 8 (run 9))
     s.WritingEntry (writeCmd 2 255 channelCase) .channel [channelCase] 255 channelCase ∧ numAt channelCase 0 1 = 1 ∧
      numAt channelCase 1 1 = (1 : PairId).val ∧ s.tables.channel[255].enabled = false ∧
      s.lines[sideA 1].mode ≠ .live ∧ s.lines[sideB 1].mode ≠ .live ∧ (17 : ChannelId) ≠ 255 ∧
      s.tables.channel[17].enabled = true ∧ s.tables.channel[17].pair = 1 ∧
      s.tables.channel[17].key = macAt channelCase 2) ∧
    (let s := writing 2 17 channelCase (configured 500 8 (run 9))
     s.WritingEntry (writeCmd 2 17 channelCase) .channel [channelCase] 17 channelCase ∧ numAt channelCase 0 1 = 1 ∧
      numAt channelCase 1 1 = (1 : PairId).val ∧ s.lines[sideA 1].mode ≠ .live ∧ s.lines[sideB 1].mode ≠ .live ∧
      ∀ o : ChannelId, o ≠ 17 → s.tables.channel[o].enabled = false) := by
  refine ⟨⟨?_, by decide⟩, ⟨?_, ?_⟩, ⟨?_, ?_⟩, ⟨?_, ?_⟩, ⟨?_, ?_⟩⟩
  all_goals first | exact writing_holds (by decide) (by decide +kernel) | decide +kernel

/-- REF1's entry: on or off, tolerance 16. -/
def referenceCase (on : Byte) : List Byte := [on] ++ natBytes 4 0 ++ [1] ++ natBytes 2 15

/-- REF1 enabled or not, its monitor in a state since the pulse of tick 100, at this tick. -/
def monitorCase (on : Bool) (st : MonitorState) (t : Nat) : State :=
  withTables (fun tb => { tb with reference := tb.reference.set 1 ⟨on, 0, 8, 40000⟩ })
    (withMonitor 1 (fun m => { m with state := st, refPoint := ⟨1607, none⟩ }) (run t))

/-- The first index past the table and the value 2; off, on, and left on one tick before the new expiry and at it. -/
theorem witness_ReferenceEntryWrites :
    ((writing 3 2 (referenceCase 1) (run 9)).WritingEntry (writeCmd 3 2 (referenceCase 1)) .reference [referenceCase 1] 2
      (referenceCase 1) ∧ 2 ≤ 2) ∧
    ((writing 3 1 (referenceCase 2) (run 9)).WritingEntry (writeCmd 3 1 (referenceCase 2)) .reference [referenceCase 2] 1
      (referenceCase 2) ∧ 1 < numAt (referenceCase 2) 0 1) ∧
    (∀ st : MonitorState,
      let s := writing 3 1 (referenceCase 0) (monitorCase true st 200)
      s.WritingEntry (writeCmd 3 1 (referenceCase 0)) .reference [referenceCase 0] 1 (referenceCase 0) ∧
        s.tables.reference[1].enabled = true ∧ numAt (referenceCase 0) 0 1 = 0 ∧ s.monitors[1].state = st) ∧
    (let s := writing 3 1 (referenceCase 1) (monitorCase false .absent 200)
     s.WritingEntry (writeCmd 3 1 (referenceCase 1)) .reference [referenceCase 1] 1 (referenceCase 1) ∧
      s.tables.reference[1].enabled = false ∧ numAt (referenceCase 1) 0 1 = 1) ∧
    (let s := writing 3 1 (referenceCase 1) (monitorCase true .good 400000116)
     s.WritingEntry (writeCmd 3 1 (referenceCase 1)) .reference [referenceCase 1] 1 (referenceCase 1) ∧
      s.tables.reference[1].enabled = (numAt (referenceCase 1) 0 1 == 1) ∧
      s.tick < s.monitors[1].refPoint.capture / 16 + 400000000 + max 16 (min (numAt (referenceCase 1) 6 2) 65535) + 1) ∧
    (∀ st : MonitorState,
      let s := writing 3 1 (referenceCase 1) (monitorCase true st 400000117)
      s.WritingEntry (writeCmd 3 1 (referenceCase 1)) .reference [referenceCase 1] 1 (referenceCase 1) ∧
        s.tables.reference[1].enabled = (numAt (referenceCase 1) 0 1 == 1) ∧
        s.monitors[1].refPoint.capture / 16 + 400000000 + max 16 (min (numAt (referenceCase 1) 6 2) 65535) + 1 ≤ s.tick ∧
        s.monitors[1].state = st) := by
  refine ⟨⟨?_, by decide⟩, ⟨?_, ?_⟩, fun st => ⟨?_, ?_⟩, ⟨?_, ?_⟩, ⟨?_, ?_⟩, fun st => ⟨?_, ?_⟩⟩
  all_goals first
    | exact writing_holds (by decide) (by decide +kernel)
    | decide +kernel
    | exact writing_holds (by intro h; cases h) (by decide +kernel)
    | (cases st <;> decide +kernel)

/-- The TIMEBASE entry with a holdover limit of 2 seconds. -/
def timebaseCase : List Byte := natBytes 4 99 ++ natBytes 4 10 ++ [1, 5] ++ natBytes 4 2 ++ [0, 0]

/-- One tick before the holdover expiry under the new limit and at it; index 1; DELIVERY at both ends. -/
theorem witness_TimebaseAndDeliveryEntryWrites :
    ((writing 4 1 timebaseCase (run 9)).WritingEntry (writeCmd 4 1 timebaseCase) .timebase [timebaseCase] 1
      timebaseCase ∧ 1 ≠ 0) ∧
    (let s := writing 4 0 timebaseCase (inHoldover 800000999 5)
     s.WritingEntry (writeCmd 4 0 timebaseCase) .timebase [timebaseCase] 0 timebaseCase ∧ numAt timebaseCase 14 1 ≤ 1 ∧
      numAt timebaseCase 15 1 ≤ 1 ∧
      ¬(s.timeBase.holdoverEntryTick + min (numAt timebaseCase 10 4) 65535 * 400000000 ≤ s.tick)) ∧
    (let s := writing 4 0 timebaseCase (inHoldover 800001000 5)
     s.WritingEntry (writeCmd 4 0 timebaseCase) .timebase [timebaseCase] 0 timebaseCase ∧ numAt timebaseCase 14 1 ≤ 1 ∧
      numAt timebaseCase 15 1 ≤ 1 ∧ s.timeBase.state = .holdover ∧ s.timeBase.holdoverExpired = false ∧
      min (numAt timebaseCase 10 4) 65535 ≠ 0 ∧
      s.timeBase.holdoverEntryTick + min (numAt timebaseCase 10 4) 65535 * 400000000 ≤ s.tick) ∧
    ((writing 6 1 [6, 0] (run 9)).WritingEntry (writeCmd 6 1 [6, 0]) .delivery [[6, 0]] 1 [6, 0] ∧
      5 < numAt [6, 0] 0 1) ∧
    ((writing 6 1 [5, 1] (run 9)).WritingEntry (writeCmd 6 1 [5, 1]) .delivery [[5, 1]] 1 [5, 1] ∧
      numAt [5, 1] 0 1 = (5 : Fin 6).val ∧ numAt [5, 1] 1 1 ≤ 1) := by
  refine ⟨⟨?_, by decide⟩, ⟨?_, ?_⟩, ⟨?_, ?_⟩, ⟨?_, ?_⟩, ⟨?_, ?_⟩⟩
  all_goals first | exact writing_holds (by decide) (by decide +kernel) | decide +kernel

/-- The NOTICE entry with notices off and this spacing. -/
def spacingBytes (spacing : Nat) : List Byte := [0, 0, 0, 0, 0, 0, 1, 2, 4] ++ natBytes 2 spacing ++ [0] ++ macField 1

/-- The spacing timer running since tick 1,000, at this tick. -/
def spaced (t : Nat) : State := { run t with notices := { NoticeUnit.reset with spacingStart := some 1000 } }

/-- Index 1; the new spacing's point one tick ahead and reached; spacing 0; no timer running. -/
theorem witness_NoticeEntryWrites :
    ((writing 5 1 (spacingBytes 3) (run 9)).WritingEntry (writeCmd 5 1 (spacingBytes 3)) .notice [spacingBytes 3] 1
      (spacingBytes 3) ∧ 1 ≠ 0) ∧
    (let s := writing 5 0 (spacingBytes 3) (spaced 2199)
     s.WritingEntry (writeCmd 5 0 (spacingBytes 3)) .notice [spacingBytes 3] 0 (spacingBytes 3) ∧
      (∀ o ∈ [0, 1, 2, 3, 4, 11], numAt (spacingBytes 3) o 1 ≤ 1) ∧ s.notices.spacingStart = some 1000 ∧
      numAt (spacingBytes 3) 9 2 ≠ 0 ∧ s.tick < 1000 + numAt (spacingBytes 3) 9 2 * 400) ∧
    (let s := writing 5 0 (spacingBytes 3) (spaced 2200)
     s.WritingEntry (writeCmd 5 0 (spacingBytes 3)) .notice [spacingBytes 3] 0 (spacingBytes 3) ∧
      (∀ o ∈ [0, 1, 2, 3, 4, 11], numAt (spacingBytes 3) o 1 ≤ 1) ∧ s.notices.spacingStart = some 1000 ∧
      1000 + numAt (spacingBytes 3) 9 2 * 400 ≤ s.tick) ∧
    (let s := writing 5 0 (spacingBytes 0) (spaced 1000)
     s.WritingEntry (writeCmd 5 0 (spacingBytes 0)) .notice [spacingBytes 0] 0 (spacingBytes 0) ∧
      (∀ o ∈ [0, 1, 2, 3, 4, 11], numAt (spacingBytes 0) o 1 ≤ 1) ∧ numAt (spacingBytes 0) 9 2 = 0) ∧
    (let s := writing 5 0 (spacingBytes 3) (run 9)
     s.WritingEntry (writeCmd 5 0 (spacingBytes 3)) .notice [spacingBytes 3] 0 (spacingBytes 3) ∧
      s.notices.spacingStart = none) := by
  refine ⟨⟨?_, by decide⟩, ⟨?_, ?_⟩, ⟨?_, ?_⟩, ⟨?_, ?_⟩, ⟨?_, ?_⟩⟩
  all_goals first | exact writing_holds (by decide) (by decide +kernel) | decide +kernel

/-! ### Modes, time, feeds and the flow of commands -/

/-- Line F2 in a mode and link state with this silence limit, its buffer filled when LIVE; P1's profile enabled or not;
F3 in a mode; the unit executing SET_LINE_MODE of F2 to this code. -/
def modeCase (from' : LineMode) (link : LinkState) (limit : Nat) (enabled : Bool) (other : LineMode) (code : Byte) :
    State :=
  serving 0x20 [2, code]
    (withTables (fun tb => { tb with profile := tb.profile.set 1 { profile1 with enabled := enabled } })
      (withLine 3 (fun f => { f with mode := other })
        (withLine 2 (fun f => { f with buffer := if from' = .live then [recordOf 2 5 1] else [] })
          (lineCase link from' none limit))))

theorem modeCase_serving (from' : LineMode) (link : LinkState) (limit : Nat) (enabled : Bool) (other mode : LineMode) :
    (modeCase from' link limit enabled other (natBytes 1 mode.code)[0]!).Serving
      (cmd 0x20 [2, (natBytes 1 mode.code)[0]!]) (.setLineMode 2 mode) := by
  cases mode <;> exact serving_holds (fun h => nomatch h) (by decide)

theorem witness_SetLineModeChangesMode :
    (∀ from' link limit enabled other, ∀ mode : LineMode,
      (modeCase from' link limit enabled other (natBytes 1 mode.code)[0]!).Serving
        (cmd 0x20 [2, (natBytes 1 mode.code)[0]!]) (.setLineMode 2 mode)) ∧
    (modeCase .off .up 0 false .off 2).tables.profile[1].enabled = false ∧
    (let s := modeCase .live .up 0 true .off 2
     s.lines[2].mode = .live ∧ s.tables.profile[pairOf 2].enabled = true) ∧
    (let s := modeCase .off .up 1 true .off 2
     s.lines[2].mode = .off ∧ s.tables.profile[pairOf 2].enabled = true ∧ s.lines[2].link = .up ∧
      s.tables.line[2].silenceLimit ≠ 0) ∧
    (let s := modeCase .off .down 1 false .off 1
     s.lines[2].mode = .off ∧ s.lines[2].link = .down) ∧
    (let s := modeCase .off .up 0 false .off 1
     s.lines[2].mode = .off ∧ s.tables.line[2].silenceLimit = 0) ∧
    (let s := modeCase .monitor .up 0 true .off 2
     s.lines[2].mode = .monitor ∧ s.tables.profile[pairOf 2].enabled = true) ∧
    (modeCase .monitor .up 0 true .off 0).lines[2].mode = .monitor ∧
    (let s := modeCase .live .up 0 true .live 1
     s.lines[2].mode = .live ∧ s.lines[2].buffer ≠ [] ∧ s.lines[3].mode = .live) ∧
    (let s := modeCase .live .up 0 true .monitor 0
     s.lines[2].mode = .live ∧ s.lines[2].buffer ≠ [] ∧ s.lines[3].mode ≠ .live) := by
  refine ⟨fun _ _ _ _ _ _ => modeCase_serving _ _ _ _ _ _, ?_⟩
  decide +kernel

/-- The unit executing this request while the time base is in this state. -/
def timeCase (st : TimeBaseState) (kind : Byte) (args : List Byte) : State :=
  serving kind args (withTimeBase (fun t => { t with state := st }) (run 1000))

/-- The largest nanoseconds; offsets at both ends of the clamp and one beyond each. -/
theorem witness_SetTimeAndTrimRate (st : TimeBaseState) :
    (timeCase st 0x21 (natBytes 6 1004 ++ natBytes 4 999999999)).Serving
      (cmd 0x21 (natBytes 6 1004 ++ natBytes 4 999999999)) (.setTime 1004 999999999) ∧
    (timeCase st 0x22 (natBytes 4 2097152)).Serving (cmd 0x22 (natBytes 4 2097152)) (.trimRate 2097152) ∧
    (timeCase st 0x22 (signedField 4 (-2097152))).Serving (cmd 0x22 (signedField 4 (-2097152))) (.trimRate (-2097152)) ∧
    (timeCase st 0x22 (natBytes 4 2097153)).Serving (cmd 0x22 (natBytes 4 2097153)) (.trimRate 2097153) ∧
    (timeCase st 0x22 (signedField 4 (-2097153))).Serving (cmd 0x22 (signedField 4 (-2097153))) (.trimRate (-2097153)) ∧
    (timeCase st 0x22 []).timeBase.state = st :=
  ⟨serving_holds (fun h => nomatch h) (by decide), serving_holds (fun h => nomatch h) (by decide),
    serving_holds (fun h => nomatch h) (by decide), serving_holds (fun h => nomatch h) (by decide),
    serving_holds (fun h => nomatch h) (by decide), rfl⟩

theorem witness_ClearFeedsAndClearNotices :
    (serving 0x30 [3] (run 9)).Serving (cmd 0x30 [3]) (.clearFeeds (some 3)) ∧
    (serving 0x30 [255] (run 9)).Serving (cmd 0x30 [255]) (.clearFeeds none) ∧
    (serving 0x31 [] (run 9)).Serving (cmd 0x31 []) .clearNotices ∧
    (some 3 : Option PairId) ≠ none ∧ (some 3 : Option PairId) ≠ some 2 ∧
    (configured 500 8 (run 9)).tables.channel[17].enabled = true :=
  ⟨serving_holds (by decide) (by decide), serving_holds (by decide) (by decide), serving_holds (by decide) (by decide),
    by decide, by decide, rfl⟩

/-- A command of IDENTIFY and a second request, with stop-on-fault. -/
def twoRequests (second : Request) : CommandInFlight :=
  { cmd 1 [] with stopOnFault := true, remaining := [⟨1, []⟩, second] }

/-- A reply of this many bytes so far, IDENTIFY next and last: 2,044 is the largest. -/
def keptBytes (n : Nat) : List Result := [⟨0x10, .done, List.replicate (n - 25) 0⟩]

theorem witness_RequestsAreCheckedAndFollow :
    ((twoRequests ⟨2, []⟩).remaining = ⟨1, []⟩ :: [⟨2, []⟩] ∧ Status.done.isFault = false ∧
      examine false ([] ++ [⟨1, .done, []⟩]) ⟨2, []⟩ 0 = .ok .readTime) ∧
    (examine false ([] ++ [⟨1, .done, []⟩]) ⟨0x40, []⟩ 0 = .error .unknown ∧
      (twoRequests ⟨0x40, []⟩).remaining = ⟨1, []⟩ :: [⟨0x40, []⟩]) ∧
    ((twoRequests ⟨2, []⟩).stopOnFault = true ∧ Status.busy.isFault = true) ∧
    ((cmd 1 []).remaining = ⟨1, []⟩ :: [] ∧ (cmd 1 []).stopOnFault ≠ true) ∧
    ((cmd 0x11 []).written + 1 < 2 ∧ 1 ≤ (cmd 0x11 []).written + 1) ∧
    ((0x40 : Byte).toNat ∉ [0x01, 0x02, 0x03, 0x04, 0x05, 0x06, 0x07, 0x10, 0x11, 0x20, 0x21, 0x22, 0x30, 0x31, 0x3F] ∧
      (0x3F : Byte).toNat ∈ [0x01, 0x02, 0x03, 0x04, 0x05, 0x06, 0x07, 0x10, 0x11, 0x20, 0x21, 0x22, 0x30, 0x31, 0x3F] ∧
      (0x3F : Byte).toNat ≠ 1) ∧
    ((⟨1, [0]⟩ : Request).action = none ∧ (⟨1, []⟩ : Request).action = some .identify) ∧
    (21 + ((keptBytes 2030).map fun x => 4 + x.data.length).sum + (4 + Action.identify.dataLength) + 4 * 0 = 2044 ∧
      2044 < 21 + ((keptBytes 2031).map fun x => 4 + x.data.length).sum + (4 + Action.identify.dataLength) + 4 * 0) := by
  refine ⟨⟨rfl, rfl, rfl⟩, ⟨rfl, rfl⟩, by decide, by decide, by decide, by decide, by decide, ?_⟩
  simp only [keptBytes, List.map_cons, List.map_nil, List.length_replicate, List.sum_cons, List.sum_nil, Action.dataLength]
  decide

/-- D0 with this many replies waiting. -/
def repliesCase (n : Nat) : State := withDelivery 0 (fun x => { x with replies := List.replicate n ⟨[], false⟩ }) (run 9)

/-- A reply queue one short of full and full, with a RESTART last and without one. -/
theorem witness_CommandEndsWithReply :
    (repliesCase 3).deliveries[(cmd 1 []).dline].replies.length < 4 ∧
    4 ≤ (repliesCase 4).deliveries[(cmd 1 []).dline].replies.length ∧
    (∃ before data, ({ cmd 1 [] with results := [⟨1, .done, []⟩, ⟨0x3F, .done, []⟩] } : CommandInFlight).results =
      before ++ [⟨0x3F, .done, data⟩]) ∧
    ¬∃ before data, (cmd 1 []).results = before ++ [⟨0x3F, .done, data⟩] := by
  refine ⟨by decide +kernel, by decide +kernel, ⟨[⟨1, .done, []⟩], [], rfl⟩, ?_⟩
  rintro ⟨before, data, h⟩
  simp [cmd] at h

theorem witness_RestartResetsEveryBlock :
    ((serving 0x3F [] (run 9)).Serving (cmd 0x3F []) .restart ∧ (cmd 0x3F []).remaining.length = 1) ∧
    (let c : CommandInFlight := { cmd 0x3F [] with remaining := [⟨0x3F, []⟩, ⟨1, []⟩] }
     ({ run 9 with unit := .executing c } : State).Serving c .restart ∧ c.remaining.length ≠ 1) ∧
    (linked .up .idle).deliveries[0].transmitter = .idle ∧
    (linked .up (.sending (sixtyFour .reply))).deliveries[0].transmitter = .sending (sixtyFour .reply) ∧
    (linked .down (.discarding (sixtyFour .feed))).deliveries[0].transmitter = .discarding (sixtyFour .feed) :=
  ⟨⟨serving_holds (by decide) (by decide), rfl⟩, ⟨⟨by decide, rfl, rfl⟩, by decide⟩, by decide +kernel, by decide +kernel,
    by decide +kernel⟩

/-- The request kinds at the ends of their arguments: READ_COUNTERS of F7, TABLE_WRITE of one DELIVERY entry, and
SET_LINE_MODE with a mode that is none. -/
theorem test_arguments :
    (⟨4, [0, 7, 1]⟩ : Request).action = some (.readCountersLine 7 true) ∧
    (⟨4, [1, 7, 1]⟩ : Request).action = none ∧
    (⟨0x11, [6, 0, 1, 5, 0]⟩ : Request).action = some (.tableWrite .delivery 1 [[5, 0]]) ∧
    (Action.tableWrite .delivery 1 [[5, 0]]).AskedBy ⟨0x11, [6, 0, 1, 5, 0]⟩ ∧
    (⟨0x20, [0, 3]⟩ : Request).action = none ∧ ¬(Action.setLineMode 0 .live).AskedBy ⟨0x20, [0, 3]⟩ := by
  refine ⟨by decide, by decide, by decide, ⟨rfl, by decide, rfl, rfl, rfl, by decide, by decide, by decide⟩, by decide,
    fun h => absurd h.2.2.2 (by decide)⟩

/-- A command frame without FCS, with this entry count and these entries. -/
def commandFrame (count : Nat) (entries : List Byte) : InboxCommand :=
  ⟨macField 0x024F434C8400 ++ macField 0x0A0B0C0D0E0F ++ [0x88, 0xB5, 0x4F, 0x43, 1, 0] ++ natBytes 2 7 ++
    natBytes 1 count ++ entries, 0, false⟩

/-- Counts 0, 1, 16 and 17; an entry that ends at the last byte and one that reaches past it. -/
theorem witness_MalformedCommandsAreAnswered :
    numAt (commandFrame 0 []).frame 20 1 = 0 ∧ 16 < numAt (commandFrame 17 []).frame 20 1 ∧
    requestsOf (commandFrame 16 (List.replicate 48 0)).frame = some (List.replicate 16 ⟨0, []⟩) ∧
    requestsOf (commandFrame 1 [3, 0, 1, 1]).frame = some [⟨3, [1]⟩] ∧
    (requestsOf (commandFrame 1 [3, 0, 2, 1]).frame = none ∧
      (repliesCase 3).deliveries[(commandFrame 1 [3, 0, 2, 1]).dline].replies.length < 4 ∧
      4 ≤ (repliesCase 4).deliveries[(commandFrame 1 [3, 0, 2, 1]).dline].replies.length) ∧
    (((commandFrame 1 []).frame.length = 21 ∧ numAt (commandFrame 1 [3, 0, 1, 1, 9]).frame 20 1 = 1) ∧
      (commandFrame 1 [3, 0, 1, 1, 9]).frame = (commandFrame 1 []).frame ++
        (([⟨3, [1]⟩] : List Request).flatMap fun r => r.kind :: (natBytes 2 r.args.length ++ r.args)) ++ [9]) ∧
    (let s := { run 9 with inbox := [commandFrame 1 [1, 0, 0], commandFrame 0 []] }
     s.settle.unit = .idle ∧ s.settle.inbox = commandFrame 1 [1, 0, 0] :: [commandFrame 0 []]) ∧
    (run 9).settle.inbox = [] := by decide +kernel

/-! ### Invariants -/

/-- A buffer, a window, an inbox and the reply queues full. -/
theorem witness_CapacitiesHold :
    let s : State := { withDelivery 1 (fun x => { x with replies := List.replicate 4 ⟨[], false⟩ })
      (withPair 1 (fun a => { a with window := windowOf 64 }) (buffered .live 64)) with
      inbox := List.replicate 4 ⟨[], 1, false⟩, pending := [.takingEvent 1] }
    s.WithinCapacity ∧ ∃ t, step s = .next t := by
  refine ⟨?_, ⟨_, rfl⟩⟩
  unfold State.WithinCapacity
  decide +kernel

theorem witness_TwinKeysStayDistinct :
    let s : State := { withPair 1 (fun a => { a with window := windowOf 64 }) (run 9) with pending := [.takingEvent 1] }
    s.TwinKeysDistinct ∧ ∃ t, step s = .next t := by
  refine ⟨?_, ⟨_, rfl⟩⟩
  unfold State.TwinKeysDistinct
  decide +kernel

/-- REF0 selected and GOOD, the time base LOCKED with a computation in flight, its new record not yet placed. -/
def following : State :=
  withMonitor 0 (fun m => { m with state := .good })
    { inFlight 1000 .locked 4 0 with selected := some 0, pending := [.disciplineCompletion] }

theorem following_selection_sound : following.SelectionSound := by
  unfold State.SelectionSound
  decide +kernel

theorem witness_SelectionStaysSound : following.SelectionSound ∧ ∃ t, step following = .next t :=
  ⟨following_selection_sound, _, rfl⟩

theorem witness_AnchorsStaySound : following.SelectionSound ∧ following.AnchorsSound ∧ ∃ t, step following = .next t := by
  refine ⟨following_selection_sound, ?_, _, rfl⟩
  refine ⟨⟨by decide +kernel, by decide +kernel⟩, ⟨by decide +kernel, by decide +kernel⟩, by decide +kernel,
    by decide +kernel, fun d h => ?_, by decide +kernel⟩
  have : d = computation 1000 := (Option.some.inj h).symm
  subst this
  decide +kernel

/-- P1 configured with F2 LIVE and UP, two frames of channel 17 held, the second starting where the first ends. -/
def holdingLive : State :=
  { withLine 2 (fun f => { f with link := .up, mode := .live, buffer := [recordOf 2 1000 5] })
      (holding [heldFrame 1005 1, heldFrame 1006 1] (inState 500 8 (.gapOpen 1000 201000))) with pending := [.takingEvent 1] }

theorem holdingLive_only_17 : ∀ c : ChannelId, holdingLive.tables.channel[c].enabled = true → c = 17 := by decide +kernel

theorem holdingLive_lines_sound : holdingLive.LinesSound := by
  refine ⟨by decide +kernel, by decide +kernel, by decide +kernel, fun c c' h h' _ _ => ?_, by decide +kernel,
    by decide +kernel, by decide +kernel⟩
  rw [holdingLive_only_17 c h, holdingLive_only_17 c' h']

theorem witness_LinesStaySound : holdingLive.LinesSound ∧ ∃ t, step holdingLive = .next t :=
  ⟨holdingLive_lines_sound, _, rfl⟩

theorem witness_HoldsStaySound :
    holdingLive.LinesSound ∧ holdingLive.HoldsSound ∧ ∃ t, step holdingLive = .next t := by
  refine ⟨holdingLive_lines_sound, ⟨by decide +kernel, by decide +kernel, by decide +kernel, fun p c h => ?_,
    by decide +kernel⟩, _, rfl⟩
  have hc : c = 17 := holdingLive_only_17 c (by simp [ChannelEntry.belongsTo] at h; exact h.1)
  subst hc
  have hp : p = 1 := by revert p; decide +kernel
  subst hp
  exact ⟨fun _ => by decide +kernel, fun _ => ⟨1000, 201000, by decide +kernel⟩⟩

theorem witness_NothingReadyEverWaits :
    let s : State := { run 9 with pending := [.tick 0] }
    s.NothingReadyWaits ∧ ∃ t, step s = .next t := by
  refine ⟨⟨fun d g _ => ?_, by decide +kernel, by decide +kernel, fun c h => ?_, ?_⟩, _, rfl⟩
  · revert d
    cases g <;> decide +kernel
  · exact absurd (show UnitState.idle = .executing c from h) (by simp)
  · exact ⟨fun h => absurd (show UnitState.idle = .restartPending from h) (by simp), fun h => absurd h (by decide +kernel)⟩

/-- The operand types leave one thing to check: a frame that completes has a byte. -/
theorem test_wellFormed_refuses_empty_frame : Instr.wellFormed (.frameCompletion 0 [] false) = false := rfl
theorem test_wellFormed_refuses_empty_delivery_frame : Instr.wellFormed (.deliveryFrameCompletion 0 [] true) = false := rfl
theorem test_wellFormed_accepts_one_byte : Instr.wellFormed (.frameCompletion 7 [0x55] true) = true := rfl

/-! ## The commands: one or two steps each, with the values of the spec's rules and worked sequences -/

/-- 02-4F-43-4C-84-0B and notice line D1 (R146, R162). -/
theorem test_reset_pin_cuts_and_release_latches :
    (next .powerOnReset (linked .up (.sending (sixtyFour .feed)))).deliveries[0].transmitter = .idle ∧
    (let t := next (.powerOnResetRelease 0x1B) held
     stationAddress t.strapLatch = 0x024F434C840B ∧ t.tables.notice.noticeLine = 1 ∧ t.clock = .awaitingLock) := by
  decide +kernel

theorem test_clock_lock_then_tick :
    (next .stampingClockLock { State.reset with tick := 9 }).tick = 0 ∧
      (next (.tick 1) (run 7)).tick = 8 ∧ (next (.tick 1) State.reset).tick = 0 := by decide +kernel

/-- REF0's entry of section 2.8: Q 3. -/
def section28 (t : Nat) (m : Monitor) (s : State) : State :=
  withTables (fun tb => { tb with reference := tb.reference.set 0 ⟨true, 0, 3, 40000⟩ })
    (withMonitor 0 (fun _ => m) { s with tick := t })

/-- Section 2.8, pulse d: GOOD, REF0_GOOD, REF0 selected, ACQUIRING with TB_STATE, and no computation started. -/
theorem test_pulse_d_makes_good_and_selects :
    let t := next (.pulseEvent (.one 0 3)) (section28 1350000120
      ⟨.qualifying, 2, ⟨15200001283, some 1002⟩, .hunting, some ⟨1003, true⟩, 1003, 2, 0, 0, 0⟩ (run 0))
    t.monitors[0] = ⟨.good, 3, ⟨21600001923, some 1003⟩, .hunting, none, 1003, 3, 0, 0, 0⟩ ∧ t.selected = some 0 ∧
      t.timeBase.state = .acquiring ∧ t.timeBase.discipline = none ∧ t.notices.counts[4] = 1 ∧
      t.notices.counts[0] = 1 := by decide +kernel

/-- Section 2.9: the pulse whose label is not traceable takes REF0 out of GOOD and switches to REF1. -/
theorem test_untraceable_label_switches :
    let s := withMonitor 1 (fun m => { m with state := .good })
      { pulseCase .good (some ⟨1005, false⟩) 8 with selected := some 0 }
    let t := next (.pulseEvent (.one 0 3)) (withTimeBase (fun b => { b with state := .locked }) s)
    t.monitors[0].state = .qualifying ∧ t.monitors[0].refPoint.seconds = some 1005 ∧ t.selected = some 1 ∧
      t.notices.counts[6] = 1 ∧ t.notices.counts[3] = 1 ∧ t.timeBase.state = .locked := by decide +kernel

/-- The computation of the worked cases of chapter 1, its pulse marking second 1,004, with P − S = e ns. -/
def workedCase (e : Int) (st : TimeBaseState) : State :=
  let second : Int := 1004 * 10 ^ 9 * 2 ^ 32
  let record : AnchorRecord := ⟨0, second + e * 2 ^ 32 - 12800001920 * 10737418240 / 16, 10737418240⟩
  withTimeBase (fun t => { t with
    state := st, previous := record, current := record
    discipline := some { computation 0 with labelTime := second, previous := record, current := record } }) (run 800000121)

/-- The slew in LOCKED: W′ 10,737,417,112, A′ = S + 10,260 ns. -/
theorem test_worked_slew :
    let t := next .disciplineCompletion (workedCase 20 .locked)
    t.timeBase.current = ⟨12800001920 + 65536, (1004 * 10 ^ 9 + 10260) * 2 ^ 32, 10737417112⟩ ∧
      t.timeBase.lastError = 85899345920 ∧ t.timeBase.state = .locked := by decide +kernel

/-- The step in ACQUIRING, and the stamps one tick before the effective point and at it: 15,237 ns 128/256, then
10,239 ns 255/256. -/
theorem test_worked_step :
    let b := (next .disciplineCompletion (workedCase 5000 .acquiring)).timeBase
    let before := b.stamp (12800001920 + 65536 - 16) 0
    let after := b.stamp (12800001920 + 65536) 0
    b.current.time = 1004 * 10 ^ 9 * 2 ^ 32 + 43980460711936 ∧ b.current.rate = 10737417166 ∧ b.stepCount = 1 ∧
      b.state = .acquiring ∧ (stampSeconds before, stampNs before, stampSub before) = (1004, 15237, 128) ∧
      (stampSeconds after, stampNs after, stampSub after) = (1004, 10239, 255) := by decide +kernel

/-- R20: the default limit of 3,600 s. -/
theorem test_holdover_expiry :
    (next .holdoverExpiry (inHoldover (1000 + 3600 * 400000000) 3600)).timeBase.holdoverExpired = true ∧
      (next .holdoverExpiry (inHoldover (999 + 3600 * 400000000) 3600)).timeBase.holdoverExpired = false := by
  decide +kernel

/-- Section 2.8, the timeout at 2,550,040,201: ABSENT, REF0_LOST, a miss, none selected, FREE. -/
theorem test_pulse_timeout :
    let s := withTimeBase (fun b => { b with state := .acquiring }) { section28 2550040201
      ⟨.good, 3, ⟨34400003203, some 1005⟩, .hunting, none, 1005, 5, 0, 0, 0⟩ (run 0) with selected := some 0 }
    let t := next (.pulseTimeoutExpiry 0) s
    t.monitors[0].state = .absent ∧ t.monitors[0].misses = 1 ∧ t.notices.counts[6] = 1 ∧ t.selected = none ∧
      t.timeBase.state = .free ∧ (next (.pulseTimeoutExpiry 0) { s with tick := 2550040200 }).monitors[0].state = .good := by
  decide +kernel

/-- R25, R26: the message of second 1,004, complete, spoiled and begun. -/
theorem test_label_line :
    (next (.labelMessageCompletion 0 0x0D) (labelCase (.collecting labelBytes))).monitors[0].slot = some ⟨1004, true⟩ ∧
      (next (.labelMessageCompletion 0 0x0A) (labelCase (.collecting labelBytes))).monitors[0].badLabels = 1 ∧
      (next (.labelFramingError 0) (labelCase (.collecting [0x7E]))).monitors[0].badLabels = 1 ∧
      (next (.labelByteReceived 0 0x7E false) (labelCase .hunting)).monitors[0].receiver = .collecting [0x7E] ∧
      (next (.labelByteReceived 0 0x7E false) (labelCase (.collecting [0x7E, 0x53]))).monitors[0].receiver =
        .collecting [0x7E, 0x53, 0x7E] := by decide +kernel

/-- F4 of section 3.9: LIVE, UP, a silence limit of 2 ms. -/
def section39 (t : Nat) (start : Option Nat) (frame : Option FrameInReception) : State :=
  withTables (fun tb => { tb with line := tb.line.set 4 ⟨0, 2⟩ })
    (withLine 4 (fun f => { f with link := .up, mode := .live, silenceStart := start, reception := frame }) (run t))

theorem test_start_of_frame_then_link_down :
    (next (.startOfFrame 4 5) (section39 10300000 (some 10000000) none)).lines[4].reception = some ⟨164800005, []⟩ ∧
    (let t := next (.feedLinkChange 4 .down) (section39 10300100 (some 10000000) (some ⟨164800005, []⟩))
     t.lines[4].counters = ⟨0, 0, 0, 0, 0, 1, 0, 1⟩ ∧ t.lines[4].silenceStart = none ∧ t.notices.counts[12] = 1) := by
  decide +kernel

theorem test_silence_expiry :
    let t := next (.silenceTimerExpiry 4) (section39 12800000 (some 12000000) none)
    t.lines[4].silent = true ∧ t.lines[4].silenceStart = none ∧ t.notices.counts[20] = 1 ∧
      (next (.silenceTimerExpiry 4) (section39 12799999 (some 12000000) none)).lines[4].silent = false := by decide +kernel

set_option maxRecDepth 100000 in
/-- The frame of the worked slew, line delay 80,000: 1,004 s, 1,009,948 ns, 165/256, quality 3. -/
theorem test_worked_stamp :
    let s := withTables (fun tb => { tb with line := tb.line.set 2 ⟨80000, 0⟩ })
      (withLine 2 (fun f => { f with link := .up, mode := .monitor, reception := some ⟨12800001920 + 65536 + 6400008, []⟩ })
        (next .disciplineCompletion (workedCase 20 .locked)))
    let a := (next (.frameCompletion 2 (goodBytes 64) false) s).lines[2].lastArrival
    (stampSeconds a.stamp, stampNs a.stamp, stampSub a.stamp, a.quality) = (1004, 1009948, 165, 3) := by decide +kernel

set_option maxRecDepth 100000 in
/-- Section 3.10, steps 3 and 6: a full buffer, then a wrong FCS. -/
theorem test_overflow_and_fcs_error :
    (let t := next (.frameCompletion 2 (goodBytes 64) false) (buffered .live 64)
     t.lines[2].buffer.length = 64 ∧ t.lines[2].counters = ⟨1, 0, 0, 0, 1, 0, 0, 0⟩ ∧ t.notices.counts[26] = 1) ∧
    (next (.frameCompletion 2 (List.replicate 64 0) false) (buffered .live 64)).lines[2].counters =
      ⟨0, 1, 0, 0, 0, 0, 0, 0⟩ := by decide +kernel

/-- The check value of the 32-bit Ethernet CRC over the digits 1 to 9 (CBF43926), least significant byte first. -/
theorem test_fcs_of_the_digits :
    fcs [0x31, 0x32, 0x33, 0x34, 0x35, 0x36, 0x37, 0x38, 0x39] = [0x26, 0x39, 0xF4, 0xCB] := by decide +kernel

/-- D1 busy, so that P1's queue keeps what is delivered. -/
def d1Busy (s : State) : State := withDelivery 1 (fun x => { x with transmitter := .sending (sixtyFour .feed) }) s

/-- The head record of F2 or F3 taken at this tick by P1. -/
def taking (t : Nat) (r : FrameRecord) (s : State) : State :=
  next (.takingEvent 1) { withLine r.line (fun f => { f with buffer := [r] }) (d1Busy s) with tick := t }

/-- Section 5.9, step 3: held, the gap timer started. -/
theorem test_taking_holds_a_frame_ahead :
    let t := taking 50000000 (recordOf 2 106 2) (inState 500 0 (.inStep 103))
    t.channels[17].sequence = .gapOpen 103 50200000 ∧ t.channels[17].gapOpenTick = 50000000 ∧
      t.pairs[1].pool.length = 1 ∧ t.pairs[1].window = [⟨17, 106, .data, 2, 0⟩] ∧ t.pairs[1].counters.taken = 1 ∧
      t.pairs[1].counters.delivered = 0 := by decide +kernel

/-- Section 6.9, step 4: 203..205 delivered, 205..206 released with RELEASED and OVERLAP, 210 left held. -/
theorem test_taking_fills_a_gap :
    let t := taking 50040000 (recordOf 3 203 3)
      (holding [heldFrame 205 2, heldFrame 210 3] (inState 500 0 (.gapOpen 203 50200000)))
    t.channels[17].sequence = .gapOpen 207 50200000 ∧ t.pairs[1].pool = [heldFrame 210 3] ∧
      t.pairs[1].queue.map (fun e => (e.record.line, e.listing.map (·.s), e.flags.byte, e.gapCount)) =
        [(3, some 203, 0x00, 0), (2, some 205, 0x0A, 0)] := by decide +kernel

/-- Section 6.10, step 3: 304..305 with RELEASED and GAP_BEFORE and gap count 4, and the timer restarted for 309. -/
theorem test_gap_timer_expiry :
    let t := next (.gapTimerExpiry 17) { holding [heldFrame 304 2, heldFrame 309 1]
      (d1Busy (inState 500 0 (.gapOpen 300 60200000))) with tick := 60200000 }
    t.channels[17] = ⟨.gapOpen 306 60400000, 60200000, 1, 4⟩ ∧ t.notices.counts[35] = 1 ∧
      t.pairs[1].queue.map (fun e => (e.listing.map (·.s), e.flags.byte, e.gapCount)) = [(some 304, 0x09, 4)] := by
  decide +kernel

/-- Section 8.9, step 1: the send is cut and counted as discarded. -/
theorem test_delivery_link_cut :
    let t := next (.deliveryLinkChange 0 .down) (linked .up (.sending (sixtyFour .feed)))
    t.deliveries[0].transmitter = .idle ∧ t.deliveries[0].counters.discarded = 1 ∧ t.notices.counts[32] = 1 := by
  decide +kernel

/-- R132: 64 bytes take 84 × 0.32 = 26.88 ticks; the send is counted by its kind. -/
theorem test_transmit_completion :
    (next (.transmitCompletion 0) (transmitting 1027 (.sending (sixtyFour .feed)))).deliveries[0].counters.feedSent = 1 ∧
      (next (.transmitCompletion 0) (transmitting 1025 (.sending (sixtyFour .feed)))).deliveries[0].transmitter ≠ .idle := by
  decide +kernel

set_option maxRecDepth 100000 in
/-- R142, R147, R149: a command is taken by the IDLE unit; one to another station is foreign. -/
theorem test_command_received :
    (let t := next (.deliveryFrameCompletion 0 (commandTo 0x024F434C8400 1 (entryOf 1 [])) false)
      (linked .up (.sending (sixtyFour .feed)))
     t.unit = .executing { cmd 1 [] with } ∧ t.deliveries[0].counters.commandsAccepted = 1) ∧
    (next (.deliveryFrameCompletion 0 (commandTo 0x024F434C8401 1 (entryOf 1 [])) false)
      (linked .up .idle)).deliveries[0].counters.foreign = 1 := by decide +kernel

/-! ### Requests: the reply on D0, which is busy, from its first result on: kind, status, data length, data -/

/-- D0 busy sending, straps 0x1B latched. -/
def busy (s : State) : State :=
  { withDelivery 0 (fun x => { x with transmitter := .sending (sixtyFour .feed) }) s with strapLatch := 0x1B }

def results (t : State) : List Byte := ((t.deliveries[0].replies.head?.map Reply.frame).getD []).drop 21

/-- R155; the header of the reply is that of R174. -/
theorem test_identify :
    let t := next .identify (busy (serving 1 [] (run 9)))
    results t = [1, 0, 0, 10, 0x84, 0x00, 1, 0x1B, 0x02, 0x4F, 0x43, 0x4C, 0x84, 0x0B] ∧
      ((t.deliveries[0].replies.head?.map Reply.frame).getD []).take 21 = macField 0x0A0B0C0D0E0F ++
        macField 0x024F434C840B ++ [0x88, 0xB5, 0x4F, 0x43, 2, 0, 0, 7, 1] := by decide +kernel

/-- The worked slew: rate word 10,737,417,112 and last error 85,899,345,920. -/
theorem test_readTime :
    let t := next .readTime (busy (serving 2 [] (next .disciplineCompletion (workedCase 20 .locked))))
    (results t).take 6 = [2, 0, 0, 39, 3, 255] ∧ numAt (results t) 17 8 = 10737417112 ∧
      numAt (results t) 25 8 = 85899345920 := by decide +kernel

/-- REF0 after pulse d of section 2.8. -/
theorem test_readReference :
    results (next .readReference (busy (serving 3 [0] (section28 1350000121
      ⟨.good, 3, ⟨21600001923, some 1003⟩, .hunting, none, 1003, 3, 0, 0, 0⟩ (run 0))))) =
      [3, 0, 0, 24, 2, 3] ++ natBytes 6 1003 ++ natBytes 4 3 ++ natBytes 12 0 := by decide +kernel

/-- F4 at the end of section 3.9; the counters are cleared after they are read. -/
theorem test_readCountersLine :
    let t := next .readCountersLine (busy (serving 4 [0, 4, 1] (withLine 4 (fun f => { f with
      counters := ⟨2, 0, 0, 0, 0, 1, 0, 2⟩ }) (section39 13500001 (some 13500000) none))))
    results t = [4, 0, 0, 48] ++ [2, 0, 0, 0, 0, 1, 0, 2].flatMap (natBytes 4) ++ natBytes 12 0 ++ [1, 2, 0, 0] ∧
      t.lines[4].counters = .zero := by decide +kernel

/-- P1 at the end of section 5.9, and D0 with what R144 lists. -/
theorem test_readCountersPair_and_delivery :
    (results (next .readCountersPair (busy (serving 4 [1, 1, 0] (withPair 1 (fun a => { a with
      window := windowOf 1
      counters := ⟨9, 4, 3, 1, 1, 0, 0, 0, 0, 0, 0, 0, 0, 0, 0⟩ }) (run 9)))))) = [4, 0, 0, 64] ++ ([9, 4, 3, 1, 1] ++ List.replicate 10 0).flatMap (natBytes 4) ++
      [0, 0, 1, 0] ∧
    (results (next .readCountersDelivery (busy (serving 4 [2, 0, 1] (withDelivery 0 (fun x => { x with
      link := .up, counters := ⟨1, 2, 3, 4, 5, 6⟩ }) (run 9)))))) =
      [4, 0, 0, 26] ++ [1, 2, 3, 4, 5, 6].flatMap (natBytes 4) ++ [1, 0] := by decide +kernel

/-- Channel 17 after step 3 of section 6.10: GAP_OPEN, X = 306, one frame held, 1 gap and 4 messages lost. -/
theorem test_readChannels :
    results (next .readChannels (busy (serving 5 [17, 1] (holding [heldFrame 309 1]
      (let s := inState 500 0 .unseen
       { s with channels := s.channels.set 17 ⟨.gapOpen 306 60400000, 60200000, 1, 4⟩ }))))) =
      [5, 0, 0, 19, 17, 2] ++ natBytes 8 306 ++ [1] ++ natBytes 4 1 ++ natBytes 4 4 := by decide +kernel

/-- The lag samples of section 7.6, read with clear after step 11. -/
theorem test_readLag :
    let g : LagStats := ((((LagStats.empty.sample 307200).sample (-76672)).sample 294400).sample 0).sample 320200
    let t := next .readLag (busy (serving 6 [0, 1] (withPair 0 (fun a => { a with
      lag := { g with sameLineRepeats := 1 } }) (run 9))))
    results t = [6, 0, 0, 56] ++ [5, 3, 1, 1].flatMap (natBytes 4) ++ signedField 8 (-76672) ++ natBytes 8 320200 ++
        natBytes 8 845128 ++ natBytes 8 320200 ++ natBytes 4 0 ++ natBytes 4 1 ∧
      t.pairs[0].lag = .empty := by decide +kernel

/-- Section 7.6, steps 2 and 4: the samples of twins that came on the B side and on the A side. -/
theorem test_lag_samples :
    lagSample 0 ⟨5, 800, .data, 0, 2560000⟩ ⟨[], 1, 0, 2867200, 3⟩ = 307200 ∧
      lagSample 0 ⟨5, 801, .data, 1, 5120128⟩ ⟨[], 0, 0, 5196800, 3⟩ = -76672 := by decide +kernel

/-- Section 10.7 before the first expiry: GAP_LOST P1 twice, SILENT F3 and TB_STATE once. -/
def section107 (t : Nat) : State :=
  withTables (fun tb => { tb with notice := { tb.notice with globalEnable := true } })
    { (((run t).raise 35 |>.raise 35).raise 19).raise 0 with
      notices := { ((((run t).raise 35 |>.raise 35).raise 19).raise 0).notices with spacingStart := some 200000000 } }

theorem test_readNotices_and_clearNotices :
    (let d := results (next .readNotices (busy (serving 7 [0] (section107 200100000))))
     d.take 6 = [7, 0, 0, 104, 1, 1] ∧ slice d (4 + 70) 2 = [1, 2] ∧ slice d (4 + 38) 2 = [1, 1]) ∧
    (next .clearNotices (busy (serving 0x31 [] (section107 200100000)))).notices.counts = Vector.replicate 52 0 := by
  decide +kernel

/-- Section 10.7 at 200,400,000: the TIME notice, 0:1, sent at once on the idle D0, the timer restarted. -/
theorem test_spacing_expiry_builds_time_notice :
    let t := next .spacingTimerExpiry (section107 200400000)
    t.notices.spacingStart = some 200400000 ∧ t.notices.counts[0] = 0 ∧ t.notices.counts[35] = 2 ∧
      t.notices.counts[19] = 1 ∧
      (match t.deliveries[0].transmitter with
       | .discarding x => x.bytes.take 23
       | _ => []) = macField 0xFFFFFFFFFFFF ++ macField 0x024F434C8400 ++ [0x88, 0xB5, 0x4F, 0x43, 3, 0, 0, 0, 1, 0, 1] := by
  decide +kernel

/-- The TIMEBASE defaults of section 1.8, in the layout of R176. -/
theorem test_tableRead_timebase_defaults :
    results (next .tableRead (busy (serving 0x10 [4, 0, 0, 1] (run 9)))) =
      [0x10, 0, 0, 16] ++ natBytes 4 1000 ++ natBytes 4 100 ++ [4, 2] ++ natBytes 4 3600 ++ [0, 0] := by decide +kernel

/-- Section 9.9, step 3, on its own: 70,000 ms stored as 65,535 with LIMITED, one entry written. -/
theorem test_lineEntryWrite_limited :
    let bs := natBytes 4 5 ++ natBytes 4 70000
    let t := next .lineEntryWrite (busy (writing 0 7 bs (run 9)))
    t.tables.line[7] = ⟨5, 65535⟩ ∧ results t = [0x11, 1, 0, 1, 1] := by decide +kernel

/-- R67, R68: BUSY beside a LIVE line, DONE without one. -/
theorem test_profileEntryWrite :
    results (next .profileEntryWrite (busy (writing 1 1 profileBytes (pairCase .live)))) = [0x11, 2, 0, 1, 0] ∧
      (next .profileEntryWrite (busy (writing 1 1 profileBytes (pairCase .monitor)))).tables.profile[1] =
        ⟨true, 2044, 2046, 2040, 8, true, 2046, 2, true, 1⟩ := by decide +kernel

/-- Section 4.6, entry 20: the reset exponent 5 clamped to 8; entry 22: the key of another channel of the pair. -/
theorem test_channelEntryWrite :
    (let bs := channelCase.set 10 5
     let t := next .channelEntryWrite (busy (writing 2 17 bs (inState 500 0 (.inStep 5))))
     t.tables.channel[17].resetExponent = 8 ∧ t.channels[17].sequence = .unseen ∧ results t = [0x11, 1, 0, 1, 1]) ∧
    results (next .channelEntryWrite (busy (writing 2 22 channelCase (configured 500 0 (run 9))))) =
      [0x11, 3, 0, 1, 0] := by decide +kernel

/-- R34: a GOOD reference disabled; its clamps. -/
theorem test_referenceEntryWrite :
    let t := next .referenceEntryWrite (busy (writing 3 1 (referenceCase 0) (monitorCase true .good 200)))
    t.monitors[1].state = .absent ∧ t.monitors[1].receiver = .stopped ∧ t.notices.counts[7] = 1 ∧
      t.tables.reference[1] = ⟨false, 0, 2, 16⟩ ∧ results t = [0x11, 1, 0, 1, 1] := by decide +kernel

/-- R20, R23: the clamps of section 1.8, and an expiry already due. -/
theorem test_timebaseEntryWrite :
    let t := next .timebaseEntryWrite (busy (writing 4 0 timebaseCase (inHoldover 800001000 5)))
    t.tables.timebase = ⟨100, 10, 1, 4, 2, 0, false⟩ ∧ t.timeBase.holdoverExpired = true ∧ t.notices.counts[2] = 1 ∧
      results t = [0x11, 1, 0, 1, 1] := by decide +kernel

/-- R143, R165: a rank above 3 is clamped; the group order replaced. -/
theorem test_noticeEntryWrite_and_delivery :
    (let t := next .noticeEntryWrite (busy (writing 5 0 (spacingBytes 3) (spaced 2200)))
     t.tables.notice.ranks = #v[0, 1, 2, 3] ∧ t.notices.spacingStart = none ∧ results t = [0x11, 1, 0, 1, 1]) ∧
    (next .deliveryEntryWrite (busy (writing 6 1 [5, 0] (run 9)))).tables.delivery[1] = ⟨5, false⟩ := by decide +kernel

/-- Section 3.10, step 7: 64 records flushed; R71: LIVE refused beside a disabled profile. -/
theorem test_setLineMode :
    (let t := next .setLineMode (busy (serving 0x20 [2, 1] (buffered .live 64)))
     t.lines[2].mode = .monitor ∧ t.lines[2].buffer = [] ∧ t.lines[2].counters.flushed = 64 ∧
      results t = [0x20, 0, 0, 0]) ∧
    results (next .setLineMode (busy (modeCase .off .up 0 false .off 2))) = [0x20, 2, 0, 0] := by decide +kernel

/-- R21: the given time at now + 65,536, UNSET left for FREE with TB_STATE; BUSY in LOCKED. -/
theorem test_setTime :
    (let t := next .setTime (busy (timeCase .unset 0x21 (natBytes 6 1004 ++ natBytes 4 5)))
     t.timeBase.current = ⟨16000 + 65536, (1004 * 10 ^ 9 + 5) * 2 ^ 32, 10737418240⟩ ∧ t.timeBase.state = .free ∧
      t.notices.counts[0] = 1) ∧
    results (next .setTime (busy (timeCase .locked 0x21 (natBytes 6 1004 ++ natBytes 4 5)))) = [0x21, 2, 0, 0] := by
  decide +kernel

/-- R17, R22: the clamp at W_nom + 2,097,152, with LIMITED; the most negative offset. -/
theorem test_trimRate :
    (let t := next .trimRate (busy (timeCase .free 0x22 (natBytes 4 2097153)))
     t.timeBase.current.rate = 10737418240 + 2097152 ∧ results t = [0x22, 1, 0, 0] ∧ t.notices.counts[0] = 0) ∧
    (next .trimRate (busy (timeCase .holdover 0x22 [0x80, 0, 0, 0]))).timeBase.current.rate = 10737418240 - 2097152 := by
  decide +kernel

/-- R95: the channel UNSEEN with its figures kept, the held frame flushed and counted. -/
theorem test_clearFeeds :
    let s := inState 500 0 .unseen
    let t := next .clearFeeds (busy (serving 0x30 [1] (holding [heldFrame 309 1]
      { s with channels := s.channels.set 17 ⟨.gapOpen 306 60400000, 60200000, 1, 4⟩ })))
    t.channels[17].sequence = .unseen ∧ t.channels[17].lostMessages = 4 ∧ t.pairs[1].pool = [] ∧
      t.pairs[1].counters.flushed = 1 ∧ results t = [0x30, 0, 0, 0] := by decide +kernel

/-- Section 9.10, steps 3 and 6: the unit waits behind the reply, whose departure resets the part. -/
theorem test_restart :
    (let t := next .restart (busy (serving 0x3F [] (run 9)))
     t.unit = .restartPending ∧ results t = [0x3F, 0, 0, 0]) ∧
    (let t := next .restart (serving 0x3F [] (linked .up .idle))
     t.unit = .idle ∧ t.tick = 0 ∧ t.deliveries[0].link = .down ∧ t.deliveries[0].replies = [] ∧
      t.deliveries[0].transmitter ≠ .idle) := by decide +kernel

/-- The table gives no row any bits. -/
theorem test_no_word_spells_a_command : decodeTableWord 8 0 = none ∧ decodeTableWord 32 0xFFFFFFFF = none := ⟨rfl, rfl⟩

/-- An empty queue idles (log 13). -/
theorem test_empty_queue_idles : step State.reset = .next State.reset := rfl

end Sys2Proof.Tests
end

section
/-! Fields in bytes (R172): what a number reads back as from the bytes it was written to, alone and inside a longer
string of fields. -/

namespace Sys2Proof.Machine

theorem bigEndian_foldl (bs : List Byte) (a : Nat) :
    bs.foldl (fun n b => n * 256 + b.toNat) a = a * 256 ^ bs.length + bigEndian bs := by
  induction bs generalizing a with
  | nil => simp [bigEndian]
  | cons b bs ih =>
    simp only [bigEndian, List.foldl_cons, List.length_cons, ih (a * 256 + b.toNat), ih (0 * 256 + b.toNat)]
    ring

theorem bigEndian_cons (b : Byte) (bs : List Byte) :
    bigEndian (b :: bs) = b.toNat * 256 ^ bs.length + bigEndian bs := by
  simpa [bigEndian] using bigEndian_foldl bs b.toNat

@[simp] theorem natBytes_length (k v : Nat) : (natBytes k v).length = k := by
  induction k with
  | zero => rfl
  | succ k ih => simp [natBytes, ih]

@[simp] theorem field_length (k v : Nat) : (field k v).length = k := natBytes_length _ _

@[simp] theorem signedField_length (k : Nat) (v : Int) : (signedField k v).length = k := natBytes_length _ _

@[simp] theorem macField_length (m : BitVec 48) : (macField m).length = 6 := natBytes_length _ _

/-- The bytes of a number keep what fits in them. -/
theorem bigEndian_natBytes (k v : Nat) : bigEndian (natBytes k v) = v % 256 ^ k := by
  induction k with
  | zero => simp [natBytes, bigEndian, Nat.mod_one]
  | succ k ih =>
    rw [natBytes, bigEndian_cons, natBytes_length, ih, Nat.mod_pow_succ, BitVec.toNat_ofNat, Nat.add_comm, Nat.mul_comm]

/-- A read that ends within the first part of a string reads that part. -/
theorem numAt_append_left (as bs : List Byte) (o k : Nat) (h : o + k ≤ as.length) :
    numAt (as ++ bs) o k = numAt as o k := by
  have hk : k ≤ (as.drop o).length := by rw [List.length_drop]; omega
  rw [numAt, numAt, slice, slice, List.drop_append_of_le_length (by omega), List.take_append_of_le_length hk]

/-- A read that starts past the first part of a string reads the second. -/
theorem numAt_append_right (as bs : List Byte) (o k : Nat) (h : as.length ≤ o) :
    numAt (as ++ bs) o k = numAt bs (o - as.length) k := by
  rw [numAt, numAt, slice, slice, List.drop_append, List.drop_eq_nil_of_le h, List.nil_append]

theorem signedAt_append_left (as bs : List Byte) (o k : Nat) (h : o + k ≤ as.length) :
    signedAt (as ++ bs) o k = signedAt as o k := by
  rw [signedAt, signedAt, numAt_append_left as bs o k h]

theorem signedAt_append_right (as bs : List Byte) (o k : Nat) (h : as.length ≤ o) :
    signedAt (as ++ bs) o k = signedAt bs (o - as.length) k := by
  rw [signedAt, signedAt, numAt_append_right as bs o k h]

theorem numAt_natBytes (k v : Nat) : numAt (natBytes k v) 0 k = v % 256 ^ k := by
  rw [numAt, slice, List.drop_zero, List.take_of_length_le (natBytes_length k v).le, bigEndian_natBytes]

/-- An unsigned field reads back as its value, or as the largest of its width (R172). -/
theorem numAt_field (k v : Nat) : numAt (field k v) 0 k = min v (256 ^ k - 1) := by
  have hp : 0 < 256 ^ k := Nat.pow_pos (by decide)
  rw [field, numAt_natBytes, Nat.mod_eq_of_lt (by omega)]

theorem numAt_macField (m : BitVec 48) : numAt (macField m) 0 6 = m.toNat := by
  rw [macField, numAt_natBytes]
  exact Nat.mod_eq_of_lt m.isLt

/-- Two's complement of k bytes: a value of the range of width M reads back from its remainder. -/
theorem signed_of_emod (w M : Int) (hl : -M ≤ 2 * w) (hu : 2 * w < M) :
    (if 2 * (w % M) < M then w % M else w % M - M) = w := by
  rcases le_or_gt 0 w with h0 | h0
  · rw [Int.emod_eq_of_lt h0 (by omega), if_pos hu]
  · have hm : w % M = w + M := by
      rw [← Int.add_emod_right, Int.emod_eq_of_lt (by omega) (by omega)]
    rw [hm, if_neg (by omega), add_sub_cancel_right]

/-- A signed field reads back as its value, or as the nearer end of its width (R172). -/
theorem signedAt_signedField (k : Nat) (v : Int) :
    signedAt (signedField (k + 1) v) 0 (k + 1) =
      max (-(128 * 256 ^ k)) (min v (128 * 256 ^ k - 1)) := by
  have hp : (0 : Int) < 256 ^ k := by positivity
  have hM : (256 : Int) ^ (k + 1) = 256 * 256 ^ k := by ring
  have hhalf : (256 : Int) ^ (k + 1) / 2 = 128 * 256 ^ k := by omega
  set w : Int := max (-(128 * 256 ^ k)) (min v (128 * 256 ^ k - 1)) with hw
  have hr0 : 0 ≤ w % 256 ^ (k + 1) := Int.emod_nonneg _ (by positivity)
  have hr1 : w % 256 ^ (k + 1) < 256 ^ (k + 1) := Int.emod_lt_of_pos _ (by positivity)
  have hnum : ((numAt (signedField (k + 1) v) 0 (k + 1) : Nat) : Int) = w % 256 ^ (k + 1) := by
    simp only [signedField, hhalf, ← hw, numAt_natBytes]
    rw [Int.natCast_emod, Int.toNat_of_nonneg hr0, Nat.cast_pow, Nat.cast_ofNat, Int.emod_eq_of_lt hr0 hr1]
  have hval := signed_of_emod w (256 ^ (k + 1)) (by omega) (by omega)
  rw [← hnum] at hval
  rw [signedAt]
  conv_rhs => rw [← hval]
  norm_cast

end Sys2Proof.Machine
end

section
/-! The time base: the conversion by record (R5), stamps and their split (R6), the two roundings (R13, R15). -/

namespace Sys2Proof.Machine

theorem recordFor_of_le (previous current : AnchorRecord) (x : Nat) (h : current.effective ≤ x) :
    recordFor previous current x = current := if_pos h

theorem recordFor_of_lt (previous current : AnchorRecord) (x : Nat) (h : x < current.effective) :
    recordFor previous current x = previous := if_neg (Nat.not_le.2 h)

theorem convert_of_le (previous current : AnchorRecord) (x : Nat) (h : current.effective ≤ x) :
    convert previous current x = current.timeOf x := by rw [convert, recordFor_of_le _ _ _ h]

theorem convert_of_lt (previous current : AnchorRecord) (x : Nat) (h : x < current.effective) :
    convert previous current x = previous.timeOf x := by rw [convert, recordFor_of_lt _ _ _ h]

/-- T256: the floor in stamp units, less the delay, held at 0 (R6, steps 1 to 3). -/
theorem TimeBase.stamp_eq (t : TimeBase) (x delay : Nat) :
    (t.stamp x delay : Int) = max 0 (convert t.previous t.current x / 2 ^ 24 - delay) := by
  rw [max_comm]
  exact Int.ofNat_toNat _

theorem stampSeconds_lt (t256 : Nat) : stampSeconds t256 < 2 ^ 48 := Nat.mod_lt _ (by decide)

theorem stampNs_le (t256 : Nat) : stampNs t256 ≤ 999999999 := by
  rw [stampNs, Config.stampsPerSecond]
  omega

theorem stampSub_le (t256 : Nat) : stampSub t256 ≤ 255 := by
  rw [stampSub]
  omega

/-- The three fields are the split of the stamp, while its seconds fit in their field (R6, steps 4 to 6). -/
theorem stamp_split (t256 : Nat) (h : t256 / 256000000000 < 2 ^ 48) :
    stampSeconds t256 * 256000000000 + stampNs t256 * 256 + stampSub t256 = t256 := by
  rw [stampSeconds, stampNs, stampSub, Config.stampsPerSecond, Nat.mod_eq_of_lt h]
  omega

/-- R13: a nearest integer, a quotient exactly halfway going up. -/
theorem roundHalfUp_nearest (a b : Int) (hb : 0 < b) :
    2 * (roundHalfUp a b * b - a) ≤ b ∧ -b < 2 * (roundHalfUp a b * b - a) := by
  have hle : (2 * a + b) / (2 * b) * (2 * b) ≤ 2 * a + b := Int.ediv_mul_le _ (by omega)
  have hlt : 2 * a + b < ((2 * a + b) / (2 * b) + 1) * (2 * b) := Int.lt_ediv_add_one_mul_self _ (by omega)
  rw [roundHalfUp]
  constructor <;> linarith

theorem roundHalfAway_of_nonneg (a b : Int) (ha : 0 ≤ a) : roundHalfAway a b = roundHalfUp a b := if_pos ha

/-- Below 0 the two roundings mirror one another. -/
theorem roundHalfAway_of_neg (a b : Int) (ha : a < 0) : roundHalfAway a b = -roundHalfUp (-a) b := if_neg (by omega)

/-- R15: a nearest integer, a quotient exactly halfway going away from zero. -/
theorem roundHalfAway_nearest (a b : Int) (hb : 0 < b) :
    (2 * (roundHalfAway a b * b - a) ≤ b ∧ -b ≤ 2 * (roundHalfAway a b * b - a)) ∧
      (2 * (roundHalfAway a b * b - a) = b → 0 ≤ a) ∧ (2 * (roundHalfAway a b * b - a) = -b → a < 0) := by
  rcases le_or_gt 0 a with ha | ha
  · obtain ⟨hle, hlt⟩ := roundHalfUp_nearest a b hb
    rw [roundHalfAway_of_nonneg a b ha]
    omega
  · obtain ⟨hle, hlt⟩ := roundHalfUp_nearest (-a) b hb
    rw [roundHalfAway_of_neg a b ha, neg_mul]
    omega

/-- Settles O5: each clause is the lemma about its part of the conversion, and the roundings are nearest integers. -/
theorem conversionStampAndRounding : Obligations.ConversionStampAndRounding := by
  refine ⟨fun t x delay => ⟨convert_of_le _ _ x, convert_of_lt _ _ x, t.stamp_eq x delay, stampNs_le _,
    stampSub_le _, stampSeconds_lt _, stamp_split _⟩, fun a b hb => ?_⟩
  obtain ⟨hnear, hup, hdown⟩ := roundHalfAway_nearest a b hb
  exact ⟨roundHalfUp_nearest a b hb, hnear, hup, hdown⟩

end Sys2Proof.Machine
end

section
/-! Requests being served: the rows of IDENTIFY, READ_TIME, READ_REFERENCE, SET_TIME and TRIM_RATE, each as the
request it ends. -/

namespace Sys2Proof.Machine

/-- A row completes the request being executed when it is the request's row (R152). -/
theorem State.Serving.served {s : State} {c : CommandInFlight} {a : Action} (h : s.Serving c a)
    (row : Action → Option (State → CommandInFlight → Served)) {act : State → CommandInFlight → Served}
    (hrow : row a = some act) :
    s.whenReleased (·.serve row) = (act s c).state.afterRequest c (act s c).status (act s c).data := by
  obtain ⟨hclock, hunit, hcurrent⟩ := h
  exact s.serve_of_current c a row act hclock hunit hcurrent hrow

theorem exec_identify {s : State} {c : CommandInFlight} (h : s.Serving c .identify) :
    exec .identify s = .next (s.afterRequest c .done s.identifyData) := by
  rw [exec, execIdentify, h.served _ rfl, State.answer]

theorem exec_readTime {s : State} {c : CommandInFlight} (h : s.Serving c .readTime) :
    exec .readTime s = .next (s.afterRequest c .done s.timeData) := by
  rw [exec, execReadTime, h.served _ rfl, State.answer]

theorem exec_readReference {s : State} {c : CommandInFlight} {r : RefId} (h : s.Serving c (.readReference r)) :
    exec .readReference s = .next (s.afterRequest c .done s.monitors[r].data) := by
  rw [exec, execReadReference, h.served _ rfl, State.answer]

theorem exec_setTime {s : State} {c : CommandInFlight} {seconds ns : Nat} (h : s.Serving c (.setTime seconds ns)) :
    exec .setTime s = .next ((s.serveSetTime seconds ns).state.afterRequest c (s.serveSetTime seconds ns).status
      (s.serveSetTime seconds ns).data) := by
  rw [exec, execSetTime, h.served _ rfl]

theorem exec_trimRate {s : State} {c : CommandInFlight} {off : Int} (h : s.Serving c (.trimRate off)) :
    exec .trimRate s = .next ((s.serveTrimRate off).state.afterRequest c (s.serveTrimRate off).status
      (s.serveTrimRate off).data) := by
  rw [exec, execTrimRate, h.served _ rfl]

end Sys2Proof.Machine
end

section
/-! The figures of IDENTIFY, READ_TIME and READ_REFERENCE in their bytes (R155, R7, R35, R175). -/

namespace Sys2Proof.Machine

/-- The low digit of the station address is the strap value's low four bits (R146). -/
theorem stationAddress_toNat (latch : Straps) : (stationAddress latch).toNat = 0x024F434C8400 + latch.toNat % 16 := by
  simp only [stationAddress, BitVec.toNat_add, BitVec.reduceToNat, BitVec.toNat_ofNat]
  omega

theorem State.identifyData_length (s : State) : s.identifyData.length = 10 := by
  simp [State.identifyData]

theorem State.timeData_length (s : State) : s.timeData.length = 39 := by
  simp [State.timeData]

theorem Monitor.data_length (m : Monitor) : m.data.length = 24 := by
  simp [Monitor.data]

theorem TimeBase.quality_le (t : TimeBase) : t.quality ≤ 5 := by
  rw [TimeBase.quality]
  cases t.state with
  | holdover =>
    dsimp only
    split <;> decide
  | _ =>
    dsimp only
    decide

theorem selectedCode_le (r : Option RefId) : selectedCode r ≤ 255 := by
  cases r with
  | none => exact Nat.le_refl _
  | some r => exact (Nat.le_of_lt r.isLt).trans (by decide)

theorem MonitorState.code_le (m : MonitorState) : m.code ≤ 2 := by
  cases m <;> decide

/-- The holdover age of R7, in its field: 0 outside HOLDOVER. -/
theorem State.min_holdoverAge (s : State) (k : Nat) :
    min s.holdoverAge k = if s.timeBase.state = TimeBaseState.holdover then
      min ((s.tick - s.timeBase.holdoverEntryTick) / 400000000) k else 0 := by
  rw [State.holdoverAge]
  split
  · rfl
  · exact Nat.zero_min k

/-- R155 in the layout of R175. -/
theorem State.identifyData_figures (s : State) :
    numAt s.identifyData 0 2 = 0x8400 ∧ numAt s.identifyData 2 1 = 1 ∧
      numAt s.identifyData 3 1 = s.strapLatch.toNat ∧
      numAt s.identifyData 4 6 = 0x024F434C8400 + s.strapLatch.toNat % 16 := by
  have hlatch : min s.strapLatch.toNat 255 = s.strapLatch.toNat := min_eq_left (s.strapLatch.isLt.le.trans (by decide))
  simp [State.identifyData, numAt_append_left, numAt_append_right, numAt_field, numAt_macField, stationAddress_toNat,
    Config.revision, hlatch]

/-- R35 in the layout of R175. -/
theorem Monitor.data_figures (m : Monitor) :
    numAt m.data 0 1 = m.state.code ∧ numAt m.data 1 1 = min m.qualifyCount 255 ∧
      numAt m.data 2 6 = min m.lastLabelSeconds (2 ^ 48 - 1) ∧
      [numAt m.data 8 4, numAt m.data 12 4, numAt m.data 16 4, numAt m.data 20 4] =
        [m.goodPulses, m.badPulses, m.misses, m.badLabels].map (min · (2 ^ 32 - 1)) := by
  have hcode : min m.state.code 255 = m.state.code := min_eq_left (m.state.code_le.trans (by decide))
  simp [Monitor.data, numAt_append_left, numAt_append_right, numAt_field, hcode]

/-- R7 in the layout of R175. -/
theorem State.timeData_figures (s : State) :
    numAt s.timeData 0 1 = s.timeBase.quality ∧ numAt s.timeData 1 1 = selectedCode s.selected ∧
      numAt s.timeData 2 6 = stampSeconds (s.timeBase.stamp s.now 0) ∧
      numAt s.timeData 8 4 = stampNs (s.timeBase.stamp s.now 0) ∧
      numAt s.timeData 12 1 = stampSub (s.timeBase.stamp s.now 0) ∧
      numAt s.timeData 13 8 = min s.timeBase.current.rate.toNat (2 ^ 64 - 1) ∧
      signedAt s.timeData 21 8 = max (-(2 ^ 63)) (min s.timeBase.lastError (2 ^ 63 - 1)) ∧
      numAt s.timeData 29 1 = min s.timeBase.lockRun 255 ∧ numAt s.timeData 30 1 = min s.timeBase.outlierRun 255 ∧
      numAt s.timeData 31 4 = min s.holdoverAge (2 ^ 32 - 1) ∧
      numAt s.timeData 35 4 = min s.timeBase.stepCount (2 ^ 32 - 1) := by
  have hquality : min s.timeBase.quality 255 = s.timeBase.quality :=
    min_eq_left (s.timeBase.quality_le.trans (by decide))
  have hselected : min (selectedCode s.selected) 255 = selectedCode s.selected := min_eq_left (selectedCode_le _)
  have hseconds (t256 : Nat) : min (stampSeconds t256) 281474976710655 = stampSeconds t256 :=
    min_eq_left (Nat.le_pred_of_lt (stampSeconds_lt t256))
  have hns (t256 : Nat) : min (stampNs t256) 4294967295 = stampNs t256 :=
    min_eq_left ((stampNs_le t256).trans (by decide))
  have hsub (t256 : Nat) : min (stampSub t256) 255 = stampSub t256 := min_eq_left (stampSub_le t256)
  simp [State.timeData, numAt_append_left, numAt_append_right, signedAt_append_left, signedAt_append_right, numAt_field,
    signedAt_signedField, hquality, hselected, hseconds, hns, hsub]

/-- Settles O36: each row returns its data, and every figure of the data reads back from its place. -/
theorem identifyAndTimeReads : Obligations.IdentifyAndTimeReads := by
  refine fun s c => ⟨fun h => ?_, fun h => ?_, fun r h => ?_⟩
  · exact ⟨_, exec_identify h, s.identifyData_length, s.identifyData_figures⟩
  · refine ⟨_, exec_readTime h, s.timeData_length, ?_⟩
    rw [← s.min_holdoverAge]
    exact s.timeData_figures
  · exact ⟨_, exec_readReference h, s.monitors[r].data_length, s.monitors[r].data_figures⟩

end Sys2Proof.Machine
end

section
/-! SET_TIME and TRIM_RATE (R21, R22): the record each installs, and the state it leaves. -/

namespace Sys2Proof.Machine

/-- A record set by management: placed in the store, and FREE entered with TB_STATE unless the state was FREE
(R4, R8). -/
theorem State.installManaged_eq (s : State) (r : AnchorRecord) :
    s.installManaged r =
      if s.timeBase.state = .free then
        { s with timeBase := { s.timeBase with previous := s.timeBase.current, current := r } }
      else State.raise { s with timeBase := { s.timeBase with
        previous := s.timeBase.current, current := r, state := .free, lockRun := 0, outlierRun := 0
        holdoverExpired := if s.timeBase.state = .holdover then false else s.timeBase.holdoverExpired } } 0 := by
  rcases (s.setTimeBase (s.timeBase.install r)).enterTb_cases .free with ⟨hfree, heq⟩ | ⟨hother, heq⟩
  · have hstate : s.timeBase.state = .free := hfree
    rw [State.installManaged, heq, if_pos hstate]
    rfl
  · have hstate : s.timeBase.state ≠ .free := hother
    rw [State.installManaged, heq, if_neg hstate, TimeBase.enter, if_neg (by simp)]
    rfl

theorem TimeBase.following_iff (t : TimeBase) :
    t.following = true ↔ t.state = .acquiring ∨ t.state = .locked := by
  simp [TimeBase.following]

theorem State.serveSetTime_busy (s : State) (seconds ns : Nat) (h : s.timeBase.following = true) :
    s.serveSetTime seconds ns = ⟨s, .busy, []⟩ := if_pos h

theorem State.serveTrimRate_busy (s : State) (off : Int) (h : s.timeBase.following = true) :
    s.serveTrimRate off = ⟨s, .busy, []⟩ := if_pos h

/-- R21: the time given, in time units, with the rate kept. -/
theorem State.setTimeRecord_eq (s : State) (seconds ns : Nat) :
    s.setTimeRecord seconds ns =
      ⟨s.tick * 16 + 65536, ((seconds : Int) * 10 ^ 9 + ns) * 2 ^ 32, s.timeBase.current.rate⟩ := by
  simp [State.setTimeRecord, State.now, Config.effectiveLead, Config.unitsPerNs]

/-- R22: the old time continued at the effective point, with the clamped rate. -/
theorem State.trimRecord_eq (s : State) (off : Int) :
    s.trimRecord off =
      ⟨s.tick * 16 + 65536, convert s.timeBase.previous s.timeBase.current (s.tick * 16 + 65536),
        clampRate (10737418240 + off)⟩ := rfl

theorem clampRate_of_lt (w : Int) (h : w < 10735321088) : clampRate w = 10735321088 := by
  simp only [clampRate, Config.nominalRate, Config.rateSpan]
  omega

theorem clampRate_of_gt (w : Int) (h : 10739515392 < w) : clampRate w = 10739515392 := by
  simp only [clampRate, Config.nominalRate, Config.rateSpan]
  omega

theorem State.serveSetTime_done (s : State) (seconds ns : Nat) (h : s.timeBase.following ≠ true) :
    s.serveSetTime seconds ns = ⟨s.installManaged ⟨s.tick * 16 + 65536, ((seconds : Int) * 10 ^ 9 + ns) * 2 ^ 32,
      s.timeBase.current.rate⟩, .done, []⟩ := by
  rw [State.serveSetTime, if_neg h, s.setTimeRecord_eq]

/-- R22: the clamped rate installed, LIMITED when the clamp changed it. -/
theorem State.serveTrimRate_installs (s : State) (off rate : Int) (h : s.timeBase.following ≠ true)
    (hrate : clampRate (10737418240 + off) = rate) :
    s.serveTrimRate off = ⟨s.installManaged ⟨s.tick * 16 + 65536,
      convert s.timeBase.previous s.timeBase.current (s.tick * 16 + 65536), rate⟩,
      if rate = 10737418240 + off then .done else .limited, []⟩ := by
  rw [State.serveTrimRate, if_neg h, s.trimRecord_eq, Config.nominalRate, hrate]

/-- Settles O47: BUSY while following; else the record of the rule, by the side of the clamp on which the rate falls. -/
theorem setTimeAndTrimRate : Obligations.SetTimeAndTrimRate := by
  intro s c t point installed
  have hinstalled (a w : Int) : installed a w = s.installManaged ⟨point, a, w⟩ := (s.installManaged_eq _).symm
  have hfree (ha : t.state ≠ .acquiring) (hl : t.state ≠ .locked) : s.timeBase.following ≠ true :=
    fun h => (s.timeBase.following_iff.1 h).elim ha hl
  refine ⟨fun seconds ns h => ⟨fun hbusy => ?_, fun ha hl => ?_⟩,
    fun off h => ⟨fun hbusy => ?_, fun ha hl hlo hhi => ?_, fun ha hl hlo => ?_, fun ha hl hhi => ?_⟩⟩
  · rw [exec_setTime h, s.serveSetTime_busy _ _ (s.timeBase.following_iff.2 hbusy)]
  · rw [exec_setTime h, s.serveSetTime_done _ _ (hfree ha hl), hinstalled]
  · rw [exec_trimRate h, s.serveTrimRate_busy _ (s.timeBase.following_iff.2 hbusy)]
  · rw [exec_trimRate h, s.serveTrimRate_installs off _ (hfree ha hl) (clampRate_eq _ (by omega) (by omega)),
      if_pos rfl, hinstalled]
  · rw [exec_trimRate h, s.serveTrimRate_installs off _ (hfree ha hl) (clampRate_of_lt _ (by omega)),
      if_neg (by omega), hinstalled]
  · rw [exec_trimRate h, s.serveTrimRate_installs off _ (hfree ha hl) (clampRate_of_gt _ (by omega)),
      if_neg (by omega), hinstalled]

end Sys2Proof.Machine
end

section
/-! Unlisted frames (R62, R66) and delivery (R88, R90): what the taken record's classification makes of it, and the two
outcomes of a delivery. -/

namespace Sys2Proof.Machine

/-! ## Delivery -/

/-- R88: with room in the queue the entry is appended. -/
theorem State.deliver_of_room (s : State) (p : PairId) (e : DeliveryEntry) (h : s.pairs[p].queue.length < 128) :
    s.deliver p e = s.setPair p (s.pairs[p].append e) := if_pos h

/-- R90: at a full queue the entry is dropped, and DELIVERY_DROP raised. -/
theorem State.deliver_of_full (s : State) (p : PairId) (e : DeliveryEntry) (h : 128 ≤ s.pairs[p].queue.length) :
    s.deliver p e = (s.setPair p s.pairs[p].drop).raise (sourceDeliveryDrop p) := if_neg (Nat.not_lt.2 h)

/-! ## Unlisted frames -/

/-- R62, R66: a frame of no listed channel is handled by the unlisted policy, decodable or not. -/
theorem State.handleRecord_of_not_listed (s : State) (p : PairId) (r : FrameRecord) (decodable : Bool)
    (h : s.tables.classify p r.bytes = if decodable then .unlisted else .undecodable) :
    s.handleRecord p r = s.unlistedFrame p r decodable := by
  cases decodable with
  | false =>
    have hclass : s.tables.classify p r.bytes = .undecodable := h
    simp only [State.handleRecord, hclass]
  | true =>
    have hclass : s.tables.classify p r.bytes = .unlisted := h
    simp only [State.handleRecord, hclass]

/-- R66, policy drop: the frame is counted and nothing else happens. -/
theorem State.unlistedFrame_of_drop (s : State) (p : PairId) (r : FrameRecord) (decodable : Bool)
    (h : s.tables.profile[p].dropUnlisted = true) :
    s.unlistedFrame p r decodable = s.setCounters p (s.pairs[p].counters.countUnlisted true decodable) := by
  simp only [State.unlistedFrame, h, if_true]

/-- R66, policy deliver: the frame is counted, then delivered with no channel and with its flags. -/
theorem State.unlistedFrame_of_deliver (s : State) (p : PairId) (r : FrameRecord) (decodable : Bool)
    (h : s.tables.profile[p].dropUnlisted = false) :
    s.unlistedFrame p r decodable = (s.setCounters p (s.pairs[p].counters.countUnlisted false decodable)).deliver p
      ⟨r, none, 0, .ofUnlisted decodable⟩ := by
  simp only [State.unlistedFrame, h, Bool.false_eq_true, if_false]

/-- Settles O21: R66 by the pair's policy for a frame that is not listed, R88 and R90 by the room in the queue. -/
theorem unlistedFramesAndDelivery : Obligations.UnlistedFramesAndDelivery := by
  refine ⟨fun s p r decodable hclass => ⟨fun hdrop => ?_, fun hdeliver => ?_⟩,
    fun s p e => ⟨fun hroom => ?_, fun hfull => ?_⟩⟩
  · rw [s.handleRecord_of_not_listed p r decodable hclass, s.unlistedFrame_of_drop p r decodable hdrop]
    rfl
  · rw [s.handleRecord_of_not_listed p r decodable hclass, s.unlistedFrame_of_deliver p r decodable hdeliver]
    rfl
  · exact s.deliver_of_room p e hroom
  · exact s.deliver_of_full p e hfull

end Sys2Proof.Machine
end

section
/-! The case table (R77 to R85): the arithmetic of R76, which case a listed data frame falls to, and what each of the
cases 1, 4 and 5 makes of the state. -/

namespace Sys2Proof.Machine

/-! ## Offsets (R76) -/

/-- The offset is the difference of the two numbers, up to whole turns of the width. -/
theorem offset_congruent (w q x : Nat) : ∃ k : Int, offset w q x = (q : Int) - x + k * 2 ^ w := by
  have hmod := Int.emod_def ((q : Int) - x) (2 ^ w)
  rw [offset]
  split
  · exact ⟨-(((q : Int) - x) / 2 ^ w) - 1, by linear_combination hmod⟩
  · exact ⟨-(((q : Int) - x) / 2 ^ w), by linear_combination hmod⟩

/-- The offset lies in the signed range of the width. -/
theorem offset_range (w q x : Nat) (hw : 0 < w) :
    -(2 ^ (w - 1) : Int) ≤ offset w q x ∧ offset w q x < 2 ^ (w - 1) := by
  have hpow : (2 : Int) ^ w = 2 * 2 ^ (w - 1) := by rw [← pow_succ', Nat.sub_add_cancel hw]
  have hpos : (0 : Int) < 2 ^ w := by positivity
  have hlow := Int.emod_nonneg ((q : Int) - x) hpos.ne'
  have hhigh := Int.emod_lt_of_pos ((q : Int) - x) hpos
  rw [offset]
  split <;> omega

/-! ## The choice of the case (R77) -/

/-- A listed data frame that the first examination settles is handled by that examination (R74, R77). -/
theorem State.handleRecord_of_examineData {s t : State} {p : PairId} {r : FrameRecord} {c : ChannelId} {q n : Nat}
    (hclass : s.tables.classify p r.bytes = .listed c q n) (hn : n ≠ 0) (h : s.examineData p ⟨r, c, q, n⟩ = some t) :
    s.handleRecord p r = t := by
  simp only [State.handleRecord, hclass, if_neg hn, State.dataFrame, h]

/-- Case 1. -/
theorem State.examineData_unseen (s : State) (p : PairId) (f : ListedFrame)
    (h : s.channels[f.channel].sequence = .unseen) : s.examineData p f = some (s.firstFrame p f) := by
  simp only [State.examineData, h, SequenceState.expected]

/-- Case 2 is not chosen: the reset exponent is 0, or the frame is no further behind X than it allows. -/
theorem State.examineData_of_no_reset (s : State) (p : PairId) (f : ListedFrame) (x : Nat)
    (hx : s.channels[f.channel].sequence.expected = some x)
    (hreset : s.tables.channel[f.channel].resetExponent = 0 ∨
      -(2 ^ s.tables.channel[f.channel].resetExponent : Int) ≤ offset (s.width p) f.s x) :
    s.examineData p f =
      if offset (s.width p) f.s x + (f.n : Int) ≤ 0 then some (s.oldFrame p f)
      else if offset (s.width p) f.s x ≤ 0 then some (s.inStepFrame p f (offset (s.width p) f.s x))
      else s.aheadFrame p f (offset (s.width p) f.s x) := by
  have hcase : ¬(s.tables.channel[f.channel].resetExponent ≠ 0 ∧
      offset (s.width p) f.s x < -(2 ^ s.tables.channel[f.channel].resetExponent : Int)) := fun ⟨hne, hlt⟩ =>
    hreset.elim hne fun hle => (Int.not_lt.2 hle) hlt
  simp only [State.examineData, hx, if_neg hcase]

/-- Case 4. -/
theorem State.examineData_inStep (s : State) (p : PairId) (f : ListedFrame) (x : Nat)
    (hx : s.channels[f.channel].sequence.expected = some x)
    (hreset : s.tables.channel[f.channel].resetExponent = 0 ∨
      -(2 ^ s.tables.channel[f.channel].resetExponent : Int) ≤ offset (s.width p) f.s x)
    (hstart : offset (s.width p) f.s x ≤ 0) (hend : 0 < offset (s.width p) f.s x + f.n) :
    s.examineData p f = some (s.inStepFrame p f (offset (s.width p) f.s x)) := by
  rw [s.examineData_of_no_reset p f x hx hreset, if_neg (Int.not_le.2 hend), if_pos hstart]

/-- Case 5: a frame ahead of X is no reset, whatever the exponent. -/
theorem State.examineData_ahead (s : State) (p : PairId) (f : ListedFrame) (x : Nat)
    (hx : s.channels[f.channel].sequence.expected = some x) (hstart : 0 < offset (s.width p) f.s x) :
    s.examineData p f = s.aheadFrame p f (offset (s.width p) f.s x) := by
  have hpow : (0 : Int) < 2 ^ s.tables.channel[f.channel].resetExponent := by positivity
  rw [s.examineData_of_no_reset p f x hx (.inr (by omega)), if_neg (by omega), if_neg (by omega)]

/-! ## Delivery followed by an advance of X -/

/-- X set after a delivery is X set on the channel as it stood before it. -/
theorem State.deliver_setExpected (s : State) (p : PairId) (e : DeliveryEntry) (c : ChannelId) (x : Nat) :
    (s.deliver p e).setExpected c x = { s.deliver p e with
      channels := s.channels.set c { s.channels[c] with
        sequence := s.channels[c].sequence.withExpected x } } := by
  rw [State.setExpected, State.setSequence, State.setChannel, s.deliver_channels]

/-- Settles O22: R76 by the range and the congruence of the offset, R78 as case 1, R82 as case 4. -/
theorem firstAndInStepFrames : Obligations.FirstAndInStepFrames := by
  refine ⟨⟨fun w q x hw => ?_, fun s p r c q n hclass hn hunseen => ?_⟩, ?_⟩
  · obtain ⟨hlow, hhigh⟩ := offset_range w q x hw
    exact ⟨hlow, hhigh, offset_congruent w q x⟩
  · rw [State.handleRecord_of_examineData hclass hn (s.examineData_unseen p ⟨r, c, q, n⟩ hunseen), State.firstFrame,
      s.deliver_setExpected, hunseen]
    rfl
  · intro s p r c q n x hclass hn hx w d hreset hstart hend
    rw [State.handleRecord_of_examineData hclass hn (s.examineData_inStep p ⟨r, c, q, n⟩ x hx hreset hstart hend),
      State.inStepFrame, s.deliver_setExpected]
    rfl

end Sys2Proof.Machine
end

section
/-! A frame ahead of X (R83 to R85, R100, R101): the lookup, the conflict, the gap given up and the hold. -/

namespace Sys2Proof.Machine

/-! ## The twin lookup (R80) -/

/-- The lookup compares the three parts of a key as one. -/
theorem TwinEntry.hasKey_eq_key (c : ChannelId) (q : Nat) (kind : FrameKind) :
    (fun e : TwinEntry => e.hasKey c q kind) = fun e => e.key == (c, q, kind) := by
  funext e
  rw [Bool.eq_iff_iff, e.hasKey_iff, beq_iff_eq, TwinEntry.key, Prod.mk.injEq, Prod.mk.injEq]

theorem PairArbiter.twinLookup_none (a : PairArbiter) (p : PairId) (c : ChannelId) (q : Nat) (kind : FrameKind)
    (r : FrameRecord) (h : (a.window.find? fun e => e.key == (c, q, kind)) = none) :
    a.twinLookup p c q kind r = none := by
  rw [← TwinEntry.hasKey_eq_key] at h
  simp only [PairArbiter.twinLookup, h]

/-- A copy of the entry's other line is a twin. -/
theorem PairArbiter.twinLookup_other_line (a : PairArbiter) (p : PairId) (c : ChannelId) (q : Nat) (kind : FrameKind)
    (r : FrameRecord) (e : TwinEntry) (h : (a.window.find? fun e => e.key == (c, q, kind)) = some e)
    (hline : e.line ≠ r.line) : a.twinLookup p c q kind r = some (a.twin p e r) := by
  rw [← TwinEntry.hasKey_eq_key] at h
  simp only [PairArbiter.twinLookup, h, if_neg hline]

/-- A copy of the entry's own line is a same-line repeat. -/
theorem PairArbiter.twinLookup_own_line (a : PairArbiter) (p : PairId) (c : ChannelId) (q : Nat) (kind : FrameKind)
    (r : FrameRecord) (e : TwinEntry) (h : (a.window.find? fun e => e.key == (c, q, kind)) = some e)
    (hline : e.line = r.line) : a.twinLookup p c q kind r = some a.sameLine := by
  rw [← TwinEntry.hasKey_eq_key] at h
  simp only [PairArbiter.twinLookup, h, if_pos hline]

/-! ## The hold pool (R76, R100) -/

theorem overlapsHeld_iff (w x : Nat) (f : ListedFrame) (pool : List ListedFrame) :
    overlapsHeld w x f pool = true ↔ ∃ h ∈ pool, h.channel = f.channel ∧
      offset w h.s x < offset w f.s x + f.n ∧ offset w f.s x < offset w h.s x + h.n := by
  simp [overlapsHeld, and_assoc]

/-- R100: no frame of the channel before the place starts further ahead, and the frame after it is one that does. -/
theorem insertHeld_place (w x : Nat) (f : ListedFrame) (pool : List ListedFrame) :
    ∃ before after, pool = before ++ after ∧ insertHeld w x f pool = before ++ f :: after ∧
      (∀ g ∈ before, g.channel = f.channel → offset w g.s x ≤ offset w f.s x) ∧
      ∀ g ∈ after.head?, g.channel = f.channel ∧ offset w f.s x < offset w g.s x := by
  induction pool with
  | nil => exact ⟨[], [], rfl, rfl, by simp, by simp⟩
  | cons g rest ih =>
    by_cases hplace : g.channel = f.channel ∧ offset w f.s x < offset w g.s x
    · exact ⟨[], g :: rest, rfl, if_pos hplace, by simp, by simpa using hplace⟩
    · obtain ⟨before, after, hpool, hinsert, hbefore, hafter⟩ := ih
      have hg : g.channel = f.channel → offset w g.s x ≤ offset w f.s x := fun hchannel =>
        Int.not_lt.1 fun hlt => hplace ⟨hchannel, hlt⟩
      refine ⟨g :: before, after, by rw [hpool, List.cons_append], ?_, List.forall_mem_cons.2 ⟨hg, hbefore⟩, hafter⟩
      rw [insertHeld, if_neg hplace, hinsert, List.cons_append]

/-! ## The branches of case 5 (R83 to R85) -/

/-- A lookup that finds an entry decides the case. -/
theorem State.aheadFrame_of_found (s : State) (p : PairId) (f : ListedFrame) (d : Int) (a : PairArbiter)
    (h : s.pairs[p].twinLookup p f.channel f.s .data f.record = some a) :
    s.aheadFrame p f d = some (s.setPair p a) := by
  simp only [State.aheadFrame, h]

/-- R83: a frame that overlaps a held one is a conflict. -/
theorem State.aheadFrame_of_overlap (s : State) (p : PairId) (f : ListedFrame) (d : Int)
    (h : s.pairs[p].twinLookup p f.channel f.s .data f.record = none)
    (hover : overlapsHeld (s.width p) (s.expectedOf f.channel) f s.pairs[p].pool = true) :
    s.aheadFrame p f d = some (s.countConflict p) := by
  simp only [State.aheadFrame, h, if_pos hover]

/-- R84: with gap wait 0 the gap is given up. -/
theorem State.aheadFrame_of_no_wait (s : State) (p : PairId) (f : ListedFrame) (d : Int)
    (h : s.pairs[p].twinLookup p f.channel f.s .data f.record = none)
    (hover : ¬overlapsHeld (s.width p) (s.expectedOf f.channel) f s.pairs[p].pool = true)
    (hwait : s.tables.channel[f.channel].gapWait = 0) :
    s.aheadFrame p f d = some (s.giveUpGap p f d.toNat) := by
  simp only [State.aheadFrame, h, if_neg hover, if_pos hwait]

/-- R85: with a gap wait and room in the pool the frame is held. -/
theorem State.aheadFrame_of_room (s : State) (p : PairId) (f : ListedFrame) (d : Int)
    (h : s.pairs[p].twinLookup p f.channel f.s .data f.record = none)
    (hover : ¬overlapsHeld (s.width p) (s.expectedOf f.channel) f s.pairs[p].pool = true)
    (hwait : s.tables.channel[f.channel].gapWait ≠ 0) (hroom : s.pairs[p].pool.length < 128) :
    s.aheadFrame p f d = some (s.hold p f) := by
  have hsize : s.pairs[p].pool.length < Config.holdPoolSize := hroom
  simp only [State.aheadFrame, h, if_neg hover, if_neg hwait, if_pos hsize]

theorem State.expectedOf_of_some (s : State) (c : ChannelId) (x : Nat)
    (h : s.channels[c].sequence.expected = some x) : s.expectedOf c = x := by
  rw [State.expectedOf, h, Option.getD_some]

/-- R84: GAP_LOST and the figures of the gap, X set after them, and the twin window entry. -/
theorem State.giveUpGap_eq (s : State) (p : PairId) (f : ListedFrame) (gap : Nat) :
    s.giveUpGap p f gap =
      let given := s.deliver p (f.entry (gapCountOf gap) .ofGap)
      let k := given.pairs[p].counters
      (State.raise { given with
        channels := s.channels.set f.channel { s.channels[f.channel] with
          sequence := s.channels[f.channel].sequence.withExpected (endOf (s.width p) f.s f.n)
          lostGaps := satInc s.channels[f.channel].lostGaps
          lostMessages := satAdd s.channels[f.channel].lostMessages gap }
        pairs := given.pairs.set p { given.pairs[p] with counters := { k with
          lostGaps := satInc k.lostGaps, lostMessages := satAdd k.lostMessages gap } } }
        (sourceGapLost p)).insertTwin p f .data := by
  simp only [State.giveUpGap, State.setExpected, State.setSequence, State.setChannel, State.accountGap,
    State.setCounters, State.setPair, State.raise, State.setNotices, s.deliver_channels, vector_getElem_set,
    Vector.set_set]

/-- R85, R101: the first frame held of a channel in step opens its gap, with the gap timer. -/
theorem State.hold_of_inStep (s : State) (p : PairId) (f : ListedFrame) (x : Nat)
    (h : s.channels[f.channel].sequence = .inStep x) :
    s.hold p f = State.insertTwin { s with
      pairs := s.pairs.set p { s.pairs[p] with pool := insertHeld (s.width p) x f s.pairs[p].pool }
      channels := s.channels.set f.channel { s.channels[f.channel] with
        gapOpenTick := s.tick
        sequence := .gapOpen x (s.tick + s.tables.channel[f.channel].gapWait * 400) } } p f .data := by
  simp only [State.hold, State.setPool, State.insertTwin, State.setPair, State.startGapTimer, State.setChannel,
    State.expectedOf, h, SequenceState.expected, Option.getD_some, Config.ticksPerUs]

/-- R85: a further frame of an open gap leaves the gap timer as it runs. -/
theorem State.hold_of_gapOpen (s : State) (p : PairId) (f : ListedFrame) (x expiry : Nat)
    (h : s.channels[f.channel].sequence = .gapOpen x expiry) :
    s.hold p f = State.insertTwin { s with
      pairs := s.pairs.set p { s.pairs[p] with pool := insertHeld (s.width p) x f s.pairs[p].pool } } p f .data := by
  simp only [State.hold, State.setPool, State.insertTwin, State.setPair, State.expectedOf, h, SequenceState.expected,
    Option.getD_some]

/-- Settles O25: the branches of case 5 in their order, each on the state it leaves, and the place of R100. -/
theorem aheadFrameIsDiscardedGivenUpOrHeld : Obligations.AheadFrameIsDiscardedGivenUpOrHeld := by
  refine ⟨?_, insertHeld_place⟩
  intro s p r c q n x hclass hn hx w d a f found overlapping hahead
  have handled {t : State} (h : s.aheadFrame p f d = some t) : s.handleRecord p r = t :=
    State.handleRecord_of_examineData hclass hn ((s.examineData_ahead p f x hx hahead).trans h)
  have missed (hfound : found = none) : a.twinLookup p c q .data r = none := a.twinLookup_none p c q .data r hfound
  have hover : overlapsHeld (s.width p) (s.expectedOf c) f a.pool = true ↔ overlapping := by
    rw [s.expectedOf_of_some c x hx]
    exact overlapsHeld_iff (s.width p) x f a.pool
  refine ⟨fun e hfound hline => ?_, fun e hfound hline => ?_, fun hfound hov => ?_, fun hfound hov hwait => ?_,
    fun hfound hov hwait hroom hseq => ?_, fun e hfound hov hwait hroom hseq => ?_⟩
  · exact handled (s.aheadFrame_of_found p f d _ (a.twinLookup_other_line p c q .data r e hfound hline))
  · exact handled (s.aheadFrame_of_found p f d _ (a.twinLookup_own_line p c q .data r e hfound hline))
  · exact handled (s.aheadFrame_of_overlap p f d (missed hfound) (hover.2 hov))
  · exact (handled (s.aheadFrame_of_no_wait p f d (missed hfound) (mt hover.1 hov) hwait)).trans
      (s.giveUpGap_eq p f d.toNat)
  · exact (handled (s.aheadFrame_of_room p f d (missed hfound) (mt hover.1 hov) hwait hroom)).trans
      (s.hold_of_inStep p f x hseq)
  · exact (handled (s.aheadFrame_of_room p f d (missed hfound) (mt hover.1 hov) hwait hroom)).trans
      (s.hold_of_gapOpen p f x e hseq)

end Sys2Proof.Machine
end

section
/-! Insertion into the twin window (R120, R123), and the lag figures a twin moves (R124 to R126). -/

namespace Sys2Proof.Machine

/-! ## Insertion (R120, R123) -/

/-- The three parts of an entry's key match exactly when the keys are equal. -/
theorem TwinEntry.hasKey_iff_key (g e : TwinEntry) : g.hasKey e.channel e.s e.kind = true ↔ g.key = e.key := by
  rw [congrFun (TwinEntry.hasKey_eq_key e.channel e.s e.kind) g]
  exact beq_iff_eq

/-- R120: the first entry with the key leaves the window, and the new entry stands at the tail. -/
theorem insertEntry_of_key (before after : List TwinEntry) (old e : TwinEntry) (hold : old.key = e.key)
    (hbefore : ∀ g ∈ before, g.key ≠ e.key) :
    insertEntry (before ++ old :: after) e = (before ++ after ++ [e], true) := by
  have hmatch : old.hasKey e.channel e.s e.kind = true := (old.hasKey_iff_key e).2 hold
  have hany : (before ++ old :: after).any (·.hasKey e.channel e.s e.kind) = true :=
    List.any_eq_true.2 ⟨old, List.mem_append_cons_self, hmatch⟩
  have hskip : ∀ g ∈ before, ¬ g.hasKey e.channel e.s e.kind = true := fun g hg =>
    mt (g.hasKey_iff_key e).1 (hbefore g hg)
  have herase : (old :: after).eraseP (·.hasKey e.channel e.s e.kind) = after := List.eraseP_cons_of_pos hmatch
  rw [insertEntry, if_pos hany, List.eraseP_append_right _ hskip, herase]

/-- R120: without an entry of the key, only a full window gives up an entry: its head. -/
theorem insertEntry_of_no_key (window : List TwinEntry) (e : TwinEntry) (h : ∀ g ∈ window, g.key ≠ e.key) :
    insertEntry window e =
      if window.length < 64 then (window ++ [e], false) else (window.drop 1 ++ [e], true) := by
  refine if_neg fun hany => ?_
  obtain ⟨g, hg, hkey⟩ := List.any_eq_true.1 hany
  exact h g hg ((g.hasKey_iff_key e).1 hkey)

/-- R123: an entry that an insertion replaces or evicts is counted single-sided. -/
theorem PairArbiter.insertTwin_of_removed (a : PairArbiter) (e : TwinEntry) (window : List TwinEntry)
    (h : insertEntry a.window e = (window, true)) :
    a.insertTwin e = { a with
      window := window, lag := { a.lag with singleSided := satInc a.lag.singleSided } } := by
  rw [PairArbiter.insertTwin, h, if_pos rfl]

/-- An insertion that removes no entry leaves the lag statistics as they are. -/
theorem PairArbiter.insertTwin_of_kept (a : PairArbiter) (e : TwinEntry) (window : List TwinEntry)
    (h : insertEntry a.window e = (window, false)) : a.insertTwin e = { a with window := window } := by
  rw [PairArbiter.insertTwin, h, if_neg Bool.false_ne_true]

/-! ## Lag samples (R124 to R126) -/

theorem sideB_ne_sideA (p : PairId) : sideB p ≠ sideA p := fun h => by
  have hval : 2 * p.val + 1 = 2 * p.val := congrArg Fin.val h
  omega

/-- R124: an A-side entry's sample is the stamp of the B-side copy that came second, less the entry's. -/
theorem lagSample_of_sideA (p : PairId) (e : TwinEntry) (r : FrameRecord) (h : e.line = sideA p) :
    lagSample p e r = clampLag ((r.stamp : Int) - e.stamp) := if_pos h

/-- R124: a B-side entry's sample is its own stamp less that of the A-side copy that came second. -/
theorem lagSample_of_sideB (p : PairId) (e : TwinEntry) (r : FrameRecord) (h : e.line = sideB p) :
    lagSample p e r = clampLag ((e.stamp : Int) - r.stamp) := if_neg fun hA => sideB_ne_sideA p (h.symm.trans hA)

/-- R125: the first sample sets both extremes. -/
theorem LagStats.sample_extremes_of_first (g : LagStats) (v : Int) (h : g.samples = 0) :
    (g.sample v).minLag = v ∧ (g.sample v).maxLag = v := ⟨if_pos h, if_pos h⟩

/-- R125: a later sample widens the extremes it lies outside of. -/
theorem LagStats.sample_extremes_of_later (g : LagStats) (v : Int) (h : g.samples ≠ 0) :
    (g.sample v).minLag = min v g.minLag ∧ (g.sample v).maxLag = max v g.maxLag := ⟨if_neg h, if_neg h⟩

/-- Settles O29: the three outcomes of an insertion, the sample by the side of the entry, and the statistics it moves. -/
theorem twinWindowAndLag : Obligations.TwinWindowAndLag := by
  intro a p e r
  refine ⟨fun before old after hwindow hold hbefore => ?replaced, fun hkeys hroom => ?appended,
    fun head rest hkeys hwindow hfull => ?evicted, lagSample_of_sideA p e r, lagSample_of_sideB p e r,
    fun v => ⟨rfl, rfl, rfl, rfl, rfl, rfl, a.lag.sample_extremes_of_first v, a.lag.sample_extremes_of_later v,
      rfl, rfl⟩⟩
  case replaced =>
    exact a.insertTwin_of_removed e _ (hwindow ▸ insertEntry_of_key before after old e hold hbefore)
  case appended =>
    exact a.insertTwin_of_kept e _ ((insertEntry_of_no_key a.window e hkeys).trans (if_pos hroom))
  case evicted =>
    have htail : a.window.drop 1 = rest := congrArg (List.drop 1) hwindow
    have hevict := (insertEntry_of_no_key a.window e hkeys).trans (if_neg (Nat.not_lt.2 hfull))
    exact a.insertTwin_of_removed e _ (htail ▸ hevict)

end Sys2Proof.Machine
end

section
/-! The output arbiter (R136 to R139): the group a choice picks, the pair the FEED group serves, and what each leaves. -/

namespace Sys2Proof.Machine

/-! ## The search of an ordered list -/

/-- A search of a list in increasing rank that holds every candidate answers the candidate of least rank. -/
theorem find?_eq_some_iff_least_rank {α : Type} (l : List α) (rank : α → Nat) (ok : α → Bool)
    (hsorted : l.Pairwise (rank · < rank ·)) (hall : ∀ a, a ∈ l) (a : α) :
    l.find? ok = some a ↔ ok a = true ∧ ∀ b, rank b < rank a → ¬ok b = true := by
  rw [List.find?_eq_some_iff_append]
  refine and_congr_right fun _ => ⟨?_, fun hleast => ?_⟩
  · rintro ⟨before, after, rfl, hbefore⟩ b hb
    rcases List.mem_append.1 (hall b) with hmem | hmem
    · simpa using hbefore b hmem
    · obtain ⟨-, hsuffix, -⟩ := List.pairwise_append.1 hsorted
      rcases List.mem_cons.1 hmem with rfl | hafter
      · exact absurd hb (Nat.lt_irrefl _)
      · exact absurd hb (Nat.lt_asymm (List.rel_of_pairwise_cons hsuffix hafter))
  · obtain ⟨before, after, rfl⟩ := List.append_of_mem (hall a)
    obtain ⟨-, -, hcross⟩ := List.pairwise_append.1 hsorted
    refine ⟨before, after, rfl, fun b hb => ?_⟩
    simpa using hleast b (hcross b hb a List.mem_cons_self)

/-! ## The pair of the FEED group (R138) -/

theorem State.feedReady_iff (s : State) (d : DlineId) (q : PairId) :
    s.feedReady d q = true ↔ s.tables.profile[q].deliveryLine = d ∧ s.pairs[q].queue ≠ [] := by
  simp [State.feedReady]

theorem State.feedOrder_fixed (s : State) (d : DlineId) (h : s.tables.delivery[d].rotating = false) :
    s.feedOrder d = [0, 1, 2, 3] := if_neg (ne_true_of_eq_false h)

theorem State.feedOrder_rotating (s : State) (d : DlineId) (h : s.tables.delivery[d].rotating = true) :
    s.feedOrder d = let last := s.deliveries[d].lastPairServed
      [last + 1, last + 2, last + 3, last] := if_pos h

/-- The places of the pairs in the rotation after the last pair served. -/
theorem rotation_sorted (last : PairId) : [last + 1, last + 2, last + 3, last].Pairwise
    fun q p => (q.val + 3 - last.val) % 4 < (p.val + 3 - last.val) % 4 := by
  fin_cases last <;> decide

theorem mem_rotation (last q : PairId) : q ∈ [last + 1, last + 2, last + 3, last] := by
  fin_cases last <;> fin_cases q <;> decide

theorem State.mem_feedOrder (s : State) (d : DlineId) (q : PairId) : q ∈ s.feedOrder d := by
  cases h : s.tables.delivery[d].rotating with
  | false =>
    rw [s.feedOrder_fixed d h]
    exact List.mem_finRange q
  | true =>
    rw [s.feedOrder_rotating d h]
    exact mem_rotation _ q

/-- The fixed order takes the lowest-numbered ready pair. -/
theorem State.feedPair_fixed (s : State) (d : DlineId) (p : PairId) (h : s.tables.delivery[d].rotating = false) :
    s.feedPair d = some p ↔ s.feedReady d p = true ∧ ∀ q, q < p → ¬s.feedReady d q = true := by
  rw [State.feedPair, s.feedOrder_fixed d h]
  exact find?_eq_some_iff_least_rank _ (fun q : PairId => q.val) _ (by decide) List.mem_finRange p

/-- The rotating order takes the first ready pair after the last one served. -/
theorem State.feedPair_rotating (s : State) (d : DlineId) (p : PairId) (h : s.tables.delivery[d].rotating = true) :
    s.feedPair d = some p ↔ s.feedReady d p = true ∧
      ∀ q : PairId, (q.val + 3 - s.deliveries[d].lastPairServed.val) % 4 <
        (p.val + 3 - s.deliveries[d].lastPairServed.val) % 4 → ¬s.feedReady d q = true := by
  rw [State.feedPair, s.feedOrder_rotating d h]
  exact find?_eq_some_iff_least_rank _ (fun q : PairId => (q.val + 3 - s.deliveries[d].lastPairServed.val) % 4) _
    (rotation_sorted _) (mem_rotation _) p

theorem State.feedPair_eq_none (s : State) (d : DlineId) :
    s.feedPair d = none ↔ ∀ q, ¬s.feedReady d q = true :=
  List.find?_eq_none.trans ⟨fun h q => h q (s.mem_feedOrder d q), fun h q _ => h q⟩

/-! ## The group of a choice (R136, section 8.3) -/

theorem State.groupHolds_feed (s : State) (d : DlineId) : s.groupHolds d .feed = true ↔ s.feedPair d ≠ none :=
  Option.isSome_iff_ne_none

theorem State.groupHolds_reply (s : State) (d : DlineId) :
    s.groupHolds d .reply = true ↔ s.deliveries[d].replies ≠ [] := by
  simp [State.groupHolds]

theorem State.groupHolds_notice (s : State) (d : DlineId) :
    s.groupHolds d .notice = true ↔ s.tables.notice.noticeLine = d ∧ s.notices.slot ≠ none := by
  simp [State.groupHolds, Option.isSome_iff_ne_none]

/-- The first group of the order that holds a frame is the one picked. -/
theorem State.chosenGroup_of_first (s : State) (d : DlineId) (before after : List TransmitKind) (g : TransmitKind)
    (horder : groupOrder s.tables.delivery[d].groupOrder = before ++ g :: after)
    (hbefore : ∀ b ∈ before, s.groupHolds d b = false) (hg : s.groupHolds d g = true) :
    s.chosenGroup d = some g :=
  List.find?_eq_some_iff_append.2 ⟨hg, before, after, horder, fun b hb => by rw [hbefore b hb]; rfl⟩

/-- A choice is the service of the group picked. -/
theorem State.choose_of_chosen (s : State) (d : DlineId) (g : TransmitKind)
    (hidle : s.deliveries[d].transmitter = .idle) (hg : s.chosenGroup d = some g) :
    s.choose d = match g with
      | .feed => s.serveFeed d
      | .reply => s.serveReply d
      | .notice => s.serveNotice d := by
  simp only [State.choose, hidle, hg]
  cases g <;> rfl

theorem State.choose_of_busy (s : State) (d : DlineId) (h : s.deliveries[d].transmitter ≠ .idle) : s.choose d = s := by
  rcases s.choose_cases d with ⟨-, hsame⟩ | ⟨hidle, -⟩
  · exact hsame
  · exact absurd hidle h

theorem State.choose_of_no_group (s : State) (d : DlineId) (h : ∀ g, s.groupHolds d g = false) : s.choose d = s := by
  have hnone : s.chosenGroup d = none := List.find?_eq_none.2 fun g _ => ne_true_of_eq_false (h g)
  rw [State.choose, hnone]
  split <;> rfl

/-! ## What a service leaves (R132, R139) -/

/-- A chosen frame is sent on a line that is UP and discarded on one that is DOWN, from the present tick (R132). -/
theorem State.transmit_eq (s : State) (d : DlineId) (kind : TransmitKind) (bytes : List Byte) :
    s.transmit d kind bytes =
      let t : Transmission := ⟨kind, bytes, if s.clock = .running then some (s.tick : Int) else none, true⟩
      s.setDelivery d { s.deliveries[d] with
        transmitter := if s.deliveries[d].link = .up then .sending t else .discarding t } := by
  simp only [State.transmit, State.clockRuns, beq_iff_eq]

theorem State.transmit_setDelivery (s : State) (d : DlineId) (x : DeliveryLine) (kind : TransmitKind)
    (bytes : List Byte) :
    (s.setDelivery d x).transmit d kind bytes =
      let t : Transmission := ⟨kind, bytes, if s.clock = .running then some (s.tick : Int) else none, true⟩
      s.setDelivery d { x with transmitter := if x.link = .up then .sending t else .discarding t } := by
  simp only [State.transmit_eq, State.setDelivery, vector_getElem_set, Vector.set_set]

/-- The pair that the FEED group serves holds a frame. -/
theorem State.queue_of_feedPair (s : State) (d : DlineId) (p : PairId) (h : s.feedPair d = some p) :
    s.pairs[p].queue ≠ [] := by
  have hready : s.feedReady d p = true := List.find?_some (p := s.feedReady d) h
  exact ((s.feedReady_iff d p).1 hready).2

theorem State.serveFeed_eq (s : State) (d : DlineId) (p : PairId) (e : DeliveryEntry) (rest : List DeliveryEntry)
    (hp : s.feedPair d = some p) (hqueue : s.pairs[p].queue = e :: rest) :
    s.serveFeed d = ((s.setPair p { s.pairs[p] with queue := rest }).setDelivery d
      { s.deliveries[d] with lastPairServed := p }).transmit d .feed e.wire := by
  simp only [State.serveFeed, hp, hqueue, State.setPair_deliveries]

theorem State.serveReply_eq (s : State) (d : DlineId) (r : Reply) (rest : List Reply)
    (hreplies : s.deliveries[d].replies = r :: rest) :
    s.serveReply d =
      let sent := (s.setDelivery d { s.deliveries[d] with replies := rest }).transmit d .reply (builtWire r.frame)
      if r.startsRestart then sent.startRestart else sent := by
  simp only [State.serveReply, hreplies]

theorem State.serveNotice_eq (s : State) (d : DlineId) (frame : List Byte) (hslot : s.notices.slot = some frame) :
    s.serveNotice d = s.takeNotice.transmit d .notice (builtWire frame) := by
  simp only [State.serveNotice, hslot]

/-- Settles O30: the group a choice picks is the first that holds a frame, each service is a transmission of the head
it removes, and the FEED search is by least rank, of the number or of the place in the rotation. -/
theorem outputArbiterChooses : Obligations.OutputArbiterChooses := by
  refine ⟨fun s d => ?_, fun s d p => ?_⟩
  · intro x go
    refine ⟨s.choose_of_busy d, s.choose_of_no_group d, fun before g after hidle horder hbefore hg => ?_,
      s.groupHolds_feed d, s.groupHolds_reply d, s.groupHolds_notice d, rfl, rfl, rfl, rfl, rfl, rfl⟩
    have hchoose := s.choose_of_chosen d g hidle (s.chosenGroup_of_first d before after g horder hbefore hg)
    refine ⟨?feed, ?reply, ?notice⟩
    case feed =>
      rintro rfl
      obtain ⟨p, hp⟩ := Option.ne_none_iff_exists'.1 ((s.groupHolds_feed d).1 hg)
      obtain ⟨e, rest, hqueue⟩ := List.exists_cons_of_ne_nil (s.queue_of_feedPair d p hp)
      refine ⟨p, e, rest, hp, hqueue, hchoose.trans ?_⟩
      rw [s.serveFeed_eq d p e rest hp hqueue, State.transmit_setDelivery]
      rfl
    case reply =>
      rintro rfl
      obtain ⟨r, rest, hreplies⟩ := List.exists_cons_of_ne_nil ((s.groupHolds_reply d).1 hg)
      refine ⟨r, rest, hreplies, hchoose.trans ?_⟩
      rw [s.serveReply_eq d r rest hreplies, State.transmit_setDelivery]
      rfl
    case notice =>
      rintro rfl
      obtain ⟨frame, hslot⟩ := Option.ne_none_iff_exists'.1 ((s.groupHolds_notice d).1 hg).2
      refine ⟨frame, hslot, hchoose.trans ?_⟩
      rw [s.serveNotice_eq d frame hslot, State.transmit_eq]
      rfl
  · intro ready last
    have hready (q : PairId) : s.feedReady d q = true ↔ ready q := s.feedReady_iff d q
    simp only [← hready]
    exact ⟨s.feedPair_fixed d p, s.feedPair_rotating d p, s.feedPair_eq_none d⟩

end Sys2Proof.Machine
end

section
/-! Feed frames as sent (R133, R134, R173): the frame check sequence that closes a frame, the flags byte, the trailer
field by field, and the trailer's place in the wire bytes. -/

namespace Sys2Proof.Machine

/-! ## Slices and the frame check sequence -/

theorem slice_append_left (as bs : List Byte) (o k : Nat) (h : o + k ≤ as.length) :
    slice (as ++ bs) o k = slice as o k := by
  have hk : k ≤ (as.drop o).length := by rw [List.length_drop]; omega
  rw [slice, slice, List.drop_append_of_le_length (by omega), List.take_append_of_le_length hk]

theorem slice_append_right (as bs : List Byte) (o k : Nat) (h : as.length ≤ o) :
    slice (as ++ bs) o k = slice bs (o - as.length) k := by
  rw [slice, slice, List.drop_append, List.drop_eq_nil_of_le h, List.nil_append]

theorem slice_zero (bs : List Byte) (k : Nat) : slice bs 0 k = bs.take k := rfl

theorem slice_cons_succ (b : Byte) (bs : List Byte) (o k : Nat) : slice (b :: bs) (o + 1) k = slice bs o k := rfl

theorem numAt_cons_succ (b : Byte) (bs : List Byte) (o k : Nat) : numAt (b :: bs) (o + 1) k = numAt bs o k := rfl

@[simp] theorem fcs_length (bs : List Byte) : (fcs bs).length = 4 := rfl

@[simp] theorem withFcs_length (bs : List Byte) : (withFcs bs).length = bs.length + 4 := by simp [withFcs]

@[simp] theorem withoutFcs_length (bs : List Byte) : (withoutFcs bs).length = bs.length - 4 := by simp [withoutFcs]

@[simp] theorem withoutFcs_withFcs (bs : List Byte) : withoutFcs (withFcs bs) = bs := by
  rw [withoutFcs, withFcs_length, Nat.add_sub_cancel, withFcs, List.take_left]

/-- A frame sent with its FCS passes the check that a receiver makes (R133). -/
theorem fcsMatches_withFcs (bs : List Byte) : fcsMatches (withFcs bs) = true := by
  rw [fcsMatches, withoutFcs_withFcs, withFcs_length, Nat.add_sub_cancel, withFcs, List.drop_left, beq_self_eq_true]

/-! ## The flags byte -/

/-- The weighted sum of the flags is the number whose binary digits they are, GAP_BEFORE the lowest. -/
theorem DeliveryFlags.byte_eq_bits (f : DeliveryFlags) :
    f.byte = BitVec.ofNat 8 (Nat.bit f.gapBefore (Nat.bit f.overlap (Nat.bit f.seqReset (Nat.bit f.released
      (Nat.bit f.unlisted (Nat.bit f.undecodable (Nat.bit f.dropBefore (Nat.bit f.heartbeat 0)))))))) := by
  rw [DeliveryFlags.byte]
  simp only [Nat.bit_val]
  congr 1
  omega

theorem DeliveryFlags.byte_getLsbD (f : DeliveryFlags) :
    f.byte.getLsbD 0 = f.gapBefore ∧ f.byte.getLsbD 1 = f.overlap ∧
    f.byte.getLsbD 2 = f.seqReset ∧ f.byte.getLsbD 3 = f.released ∧
    f.byte.getLsbD 4 = f.unlisted ∧ f.byte.getLsbD 5 = f.undecodable ∧
    f.byte.getLsbD 6 = f.dropBefore ∧ f.byte.getLsbD 7 = f.heartbeat := by
  simp [DeliveryFlags.byte_eq_bits, -BitVec.getLsbD_eq_getElem, BitVec.getLsbD_ofNat, Nat.testBit_bit_succ]

/-! ## The stamp trailer -/

@[simp] theorem DeliveryEntry.trailer_length (e : DeliveryEntry) : e.trailer.length = 24 := by
  simp [DeliveryEntry.trailer]

theorem Listing.channel_getD_le (l : Option Listing) : (l.map fun g => g.channel.val).getD 0 ≤ 255 := by
  cases l with
  | none => exact Nat.zero_le _
  | some g => exact Nat.le_pred_of_lt g.channel.isLt

/-- The mark and the flags byte, which the trailer holds as they are. -/
theorem DeliveryEntry.trailer_mark_and_flags (e : DeliveryEntry) :
    slice e.trailer 0 2 = [0x4F, 0x54] ∧ slice e.trailer 4 1 = [e.flags.byte] := by
  simp [DeliveryEntry.trailer, slice_cons_succ, slice_append_right, slice_zero]

/-- The numbers of R173's table, each within its field. -/
theorem DeliveryEntry.trailer_figures (e : DeliveryEntry) :
    numAt e.trailer 2 1 = e.record.line.val ∧ numAt e.trailer 3 1 = min e.record.quality 255 ∧
    numAt e.trailer 5 1 = ((e.listing.map fun g => g.channel.val).getD 0) ∧
    numAt e.trailer 6 2 = min e.gapCount 65535 ∧ numAt e.trailer 8 6 = stampSeconds e.record.stamp ∧
    numAt e.trailer 14 4 = stampNs e.record.stamp ∧ numAt e.trailer 18 1 = stampSub e.record.stamp ∧
    numAt e.trailer 19 1 = min ((e.listing.map fun g => g.n).getD 0) 255 ∧
    numAt e.trailer 20 4 = ((e.listing.map fun g => g.s).getD 0) % 2 ^ 32 := by
  have hline : min e.record.line.val 255 = e.record.line.val :=
    min_eq_left (e.record.line.isLt.le.trans (by decide))
  have hchannel := min_eq_left (Listing.channel_getD_le e.listing)
  have hseconds : min (stampSeconds e.record.stamp) 281474976710655 = stampSeconds e.record.stamp :=
    min_eq_left (Nat.le_pred_of_lt (stampSeconds_lt _))
  have hns : min (stampNs e.record.stamp) 4294967295 = stampNs e.record.stamp :=
    min_eq_left ((stampNs_le _).trans (by decide))
  have hsub := min_eq_left (stampSub_le e.record.stamp)
  simp [DeliveryEntry.trailer, numAt_cons_succ, numAt_append_left, numAt_append_right, numAt_field, numAt_natBytes,
    hline, hchannel, hseconds, hns, hsub]

/-! ## The wire bytes -/

theorem DeliveryEntry.wire_length (e : DeliveryEntry) (h : 4 ≤ e.record.bytes.length) :
    e.wire.length = e.record.bytes.length + 24 := by
  simp only [DeliveryEntry.wire, withFcs_length, List.length_append, withoutFcs_length, e.trailer_length]
  omega

theorem DeliveryEntry.wire_take (e : DeliveryEntry) :
    e.wire.take (e.record.bytes.length - 4) = e.record.bytes.take (e.record.bytes.length - 4) := by
  rw [DeliveryEntry.wire, withFcs, List.append_assoc, List.take_left' (withoutFcs_length _), withoutFcs]

/-- The trailer stands right after the frame bytes, before the new FCS (R173). -/
theorem DeliveryEntry.slice_wire_trailer (e : DeliveryEntry) (o k : Nat) (h : o + k ≤ 24) :
    slice e.wire (e.record.bytes.length - 4 + o) k = slice e.trailer o k := by
  have hplace := (withoutFcs_length e.record.bytes).le.trans (Nat.le_add_right _ o)
  rw [DeliveryEntry.wire, withFcs, List.append_assoc, slice_append_right _ _ _ k hplace, withoutFcs_length,
    Nat.add_sub_cancel_left, slice_append_left _ _ o k (h.trans_eq e.trailer_length.symm)]

theorem DeliveryEntry.numAt_wire_trailer (e : DeliveryEntry) (o k : Nat) (h : o + k ≤ 24) :
    numAt e.wire (e.record.bytes.length - 4 + o) k = numAt e.trailer o k := by
  rw [numAt, numAt, e.slice_wire_trailer o k h]

/-- Settles O34: a read of the wire bytes at a trailer's place is a read of the trailer, whose fields and flag bits are
those of R173. -/
theorem feedFrameCarriesTrailer : Obligations.FeedFrameCarriesTrailer := by
  intro e h n
  obtain ⟨hmark, hflags⟩ := e.trailer_mark_and_flags
  obtain ⟨hline, hquality, hchannel, hgap, hseconds, hns, hsub, hn, hs⟩ := e.trailer_figures
  exact ⟨e.wire_length h, e.wire_take, fcsMatches_withFcs _,
    (e.slice_wire_trailer 0 2 (by decide)).trans hmark, (e.numAt_wire_trailer 2 1 (by decide)).trans hline,
    (e.numAt_wire_trailer 3 1 (by decide)).trans hquality, (e.slice_wire_trailer 4 1 (by decide)).trans hflags,
    (e.numAt_wire_trailer 5 1 (by decide)).trans hchannel, (e.numAt_wire_trailer 6 2 (by decide)).trans hgap,
    (e.numAt_wire_trailer 8 6 (by decide)).trans hseconds, (e.numAt_wire_trailer 14 4 (by decide)).trans hns,
    (e.numAt_wire_trailer 18 1 (by decide)).trans hsub, (e.numAt_wire_trailer 19 1 (by decide)).trans hn,
    (e.numAt_wire_trailer 20 4 (by decide)).trans hs, e.flags.byte_getLsbD⟩

end Sys2Proof.Machine
end

section
/-! What the pair arbiters can do to the rest of the part and to their own capacities: every operation of chapters 5 to 7
changes pairs, channels and notice counts only, keeps pool, window and queue within their sizes (R91, R98, R119) and the
window's keys distinct (R119). -/

namespace Sys2Proof.Machine

/-! ## One pair -/

/-- `b` stands where `a` stood: its pool, window and queue are within their sizes and its window keys distinct, if those
of `a` were. -/
structure PairArbiter.Kept (a b : PairArbiter) : Prop where
  pool : a.pool.length ≤ 128 → b.pool.length ≤ 128
  window : a.window.length ≤ 64 → b.window.length ≤ 64
  queue : a.queue.length ≤ 128 → b.queue.length ≤ 128
  keys : (a.window.map TwinEntry.key).Nodup → (b.window.map TwinEntry.key).Nodup

theorem PairArbiter.Kept.refl (a : PairArbiter) : a.Kept a := ⟨id, id, id, id⟩

theorem PairArbiter.Kept.trans {a b c : PairArbiter} (h : a.Kept b) (g : b.Kept c) : a.Kept c :=
  ⟨g.pool ∘ h.pool, g.window ∘ h.window, g.queue ∘ h.queue, g.keys ∘ h.keys⟩

theorem PairArbiter.kept_of_sublist {a b : PairArbiter} (pool : b.pool.Sublist a.pool) (window : b.window.Sublist a.window)
    (queue : b.queue = a.queue) : a.Kept b :=
  ⟨pool.length_le.trans, window.length_le.trans, fun h => queue ▸ h, fun h => h.sublist (window.map _)⟩

theorem PairArbiter.kept_of_eq {a b : PairArbiter} (pool : b.pool = a.pool) (window : b.window = a.window)
    (queue : b.queue = a.queue) : a.Kept b :=
  kept_of_sublist (pool ▸ .refl _) (window ▸ .refl _) queue

theorem PairArbiter.append_kept (a : PairArbiter) (e : DeliveryEntry) (h : a.queue.length < 128) : a.Kept (a.append e) :=
  ⟨id, id, fun _ => by simpa [PairArbiter.append] using h, id⟩

theorem PairArbiter.drop_kept (a : PairArbiter) : a.Kept a.drop := kept_of_eq rfl rfl rfl

/-- An insertion takes out the entry of the same key, or the head of a full window (R120). -/
theorem PairArbiter.insertTwin_kept (a : PairArbiter) (e : TwinEntry) : a.Kept (a.insertTwin e) := by
  refine ⟨id, fun h => ?_, id, fun h => ?_⟩
  · change (insertEntry a.window e).1.length ≤ 64
    unfold insertEntry
    split_ifs with hany hroom
    · obtain ⟨g, hg, hk⟩ := List.any_eq_true.1 hany
      have := List.length_pos_of_mem hg
      rw [List.length_append, List.length_eraseP_of_mem (p := (·.hasKey e.channel e.s e.kind)) hg hk,
        List.length_singleton]
      omega
    · simp only [Config.twinWindowSize] at hroom
      simp only [List.length_append, List.length_singleton]
      omega
    · simp only [Config.twinWindowSize] at hroom
      simp only [List.length_append, List.length_drop, List.length_singleton]
      omega
  · change ((insertEntry a.window e).1.map TwinEntry.key).Nodup
    have appended (rest : List TwinEntry) (hsub : rest.Sublist a.window) (hnew : ∀ g ∈ rest, g.key ≠ e.key) :
        ((rest ++ [e]).map TwinEntry.key).Nodup := by
      rw [List.map_append, List.map_singleton, List.nodup_append]
      exact ⟨h.sublist (hsub.map _), List.nodup_singleton _, by simpa using hnew⟩
    by_cases hany : ∃ g ∈ a.window, g.key = e.key
    · obtain ⟨before, old, after, hold, hsplit, hbefore⟩ :
          ∃ before old after, old.key = e.key ∧ a.window = before ++ old :: after ∧ ∀ g ∈ before, g.key ≠ e.key := by
        obtain ⟨old, before, after, hb, ho, hs, -⟩ := List.exists_of_eraseP (p := fun g => decide (g.key = e.key))
          hany.choose_spec.1 (by simpa using hany.choose_spec.2)
        exact ⟨before, old, after, by simpa using ho, hs, by simpa using hb⟩
      rw [hsplit, insertEntry_of_key before after old e hold hbefore]
      refine appended _ (hsplit ▸ List.Sublist.append (.refl _) (List.sublist_cons_self ..)) fun g hg => ?_
      rcases List.mem_append.1 hg with hg | hg
      · exact hbefore g hg
      · rw [hsplit, List.map_append, List.map_cons, List.nodup_middle, List.nodup_cons, ← List.map_append] at h
        exact fun hk => h.1 (List.mem_map.2 ⟨g, by simp [hg], hk.trans hold.symm⟩)
    · have hnew : ∀ g ∈ a.window, g.key ≠ e.key := fun g hg hk => hany ⟨g, hg, hk⟩
      rw [insertEntry_of_no_key a.window e hnew]
      split_ifs
      · exact appended _ (.refl _) hnew
      · exact appended _ (List.drop_sublist ..) fun g hg => hnew g (List.mem_of_mem_drop hg)

theorem PairArbiter.sameLine_kept (a : PairArbiter) : a.Kept a.sameLine := kept_of_eq rfl rfl rfl

theorem PairArbiter.twin_kept (a : PairArbiter) (p : PairId) (e : TwinEntry) (r : FrameRecord) : a.Kept (a.twin p e r) :=
  kept_of_sublist (.refl _) List.erase_sublist rfl

theorem PairArbiter.twinLookup_kept {a b : PairArbiter} {p : PairId} {c : ChannelId} {q : Nat} {kind : FrameKind}
    {r : FrameRecord} (h : a.twinLookup p c q kind r = some b) : a.Kept b := by
  rcases a.twinLookup_cases p c q kind r with ⟨-, hnone⟩ | ⟨e, -, -, hsome⟩
  · exact absurd (hnone.symm.trans h) (by simp)
  · rw [hsome, Option.some.injEq] at h
    rw [← h]
    split
    · exact a.sameLine_kept
    · exact a.twin_kept p e r

/-! ## The whole part -/

/-- A change that the pair arbiters can make. -/
structure State.Shifted (s t : State) : Prop where
  rest : t = { s with pairs := t.pairs, channels := t.channels, notices := t.notices }
  slot : t.notices.slot = s.notices.slot
  pairs : ∀ p : PairId, s.pairs[p].Kept t.pairs[p]
  counts : (∀ id : Fin 52, s.notices.counts[id] ≤ 255) → ∀ id : Fin 52, t.notices.counts[id] ≤ 255

theorem State.Shifted.refl (s : State) : s.Shifted s := ⟨rfl, rfl, fun _ => .refl _, id⟩

theorem State.Shifted.trans {s t u : State} (h : s.Shifted t) (g : t.Shifted u) : s.Shifted u := by
  refine ⟨?_, g.slot.trans h.slot, fun p => (h.pairs p).trans (g.pairs p), g.counts ∘ h.counts⟩
  rw [g.rest]
  conv_lhs => rw [h.rest]

theorem State.setPair_shifted (s : State) (p : PairId) (a : PairArbiter) (h : s.pairs[p].Kept a) :
    s.Shifted (s.setPair p a) := by
  refine ⟨rfl, rfl, fun q => ?_, id⟩
  by_cases hq : p = q
  · subst hq
    simpa only [State.setPair, vector_getElem_set] using h
  · simpa only [State.setPair, vector_getElem_set_ne _ _ _ _ hq] using .refl _

theorem State.setChannel_shifted (s : State) (c : ChannelId) (x : Channel) : s.Shifted (s.setChannel c x) :=
  ⟨rfl, rfl, fun _ => .refl _, id⟩

theorem State.raise_counts_le (s : State) (id : Fin 52) (h : ∀ n : Fin 52, s.notices.counts[n] ≤ 255) (n : Fin 52) :
    (s.raise id).notices.counts[n] ≤ 255 := by
  by_cases hn : id = n
  · subst hn
    rw [s.raise_counts_self]
    exact min_le_right ..
  · rw [s.raise_counts_other id n hn]
    exact h n

theorem State.raise_shifted (s : State) (id : Fin 52) : s.Shifted (s.raise id) :=
  ⟨rfl, rfl, fun _ => .refl _, s.raise_counts_le id⟩

theorem State.setExpected_shifted (s : State) (c : ChannelId) (x : Nat) : s.Shifted (s.setExpected c x) :=
  s.setChannel_shifted ..

theorem State.setCounters_shifted (s : State) (p : PairId) (k : PairCounters) : s.Shifted (s.setCounters p k) :=
  s.setPair_shifted p _ (PairArbiter.kept_of_eq rfl rfl rfl)

theorem State.setPool_shifted (s : State) (p : PairId) (pool : List ListedFrame)
    (h : s.pairs[p].pool.length ≤ 128 → pool.length ≤ 128) : s.Shifted (s.setPool p pool) :=
  s.setPair_shifted p _ ⟨h, id, id, id⟩

theorem State.deliver_shifted (s : State) (p : PairId) (e : DeliveryEntry) : s.Shifted (s.deliver p e) := by
  unfold State.deliver
  split
  · exact s.setPair_shifted p _ (PairArbiter.append_kept _ _ ‹_›)
  · exact (s.setPair_shifted p _ (PairArbiter.drop_kept _)).trans (State.raise_shifted ..)

theorem State.accountGap_shifted (s : State) (p : PairId) (c : ChannelId) (gap : Nat) : s.Shifted (s.accountGap p c gap) :=
  ((s.setChannel_shifted ..).trans (State.setCounters_shifted ..)).trans (State.raise_shifted ..)

theorem State.insertTwin_shifted (s : State) (p : PairId) (f : ListedFrame) (kind : FrameKind) :
    s.Shifted (s.insertTwin p f kind) :=
  s.setPair_shifted p _ (PairArbiter.insertTwin_kept _ _)

theorem State.startGapTimer_shifted (s : State) (c : ChannelId) : s.Shifted (s.startGapTimer c) := s.setChannel_shifted ..

/-! ## Release and expiry -/

theorem State.supersede_shifted (s : State) (p : PairId) (c : ChannelId) : s.Shifted (s.supersede p c) :=
  s.setPair_shifted p _ (PairArbiter.kept_of_sublist (removeLowest_sublist ..) (.refl _) rfl)

theorem State.removeLowest_shifted (s : State) (p : PairId) (c : ChannelId) :
    s.Shifted (s.setPool p (removeLowest s.pairs[p].pool c)) :=
  s.setPool_shifted p _ (removeLowest_sublist ..).length_le.trans

theorem State.releaseFrame_shifted (s : State) (p : PairId) (f : ListedFrame) (start : Int) :
    s.Shifted (s.releaseFrame p f start) :=
  ((s.removeLowest_shifted ..).trans (State.deliver_shifted ..)).trans (State.setExpected_shifted ..)

theorem State.releaseLoop_shifted (turns : Nat) (p : PairId) (c : ChannelId) :
    ∀ s : State, s.Shifted (s.releaseLoop turns p c) := by
  induction turns with
  | zero => exact State.Shifted.refl
  | succ k ih =>
    intro s
    rcases s.releaseLoop_succ k p c with ⟨-, h⟩ | ⟨f, -, ⟨-, h⟩ | ⟨-, -, h⟩ | ⟨-, h⟩⟩ <;> rw [h]
    · exact s.setChannel_shifted ..
    · exact (s.supersede_shifted p c).trans (ih _)
    · exact (s.releaseFrame_shifted ..).trans (ih _)
    · exact .refl s

theorem State.release_shifted (s : State) (p : PairId) (c : ChannelId) : s.Shifted (s.release p c) :=
  State.releaseLoop_shifted ..

theorem State.expiryStep_shifted (s : State) (p : PairId) (c : ChannelId) : s.Shifted (s.expiryStep p c) := by
  unfold State.expiryStep
  split
  · exact .refl s
  · exact ((((s.removeLowest_shifted ..).trans (State.deliver_shifted ..)).trans (State.accountGap_shifted ..)).trans
      (State.setExpected_shifted ..)).trans (State.release_shifted ..)

theorem State.expireGap_shifted (s : State) (p : PairId) (c : ChannelId) : s.Shifted (s.expireGap p c) := by
  unfold State.expireGap
  dsimp only
  split
  · exact (s.expiryStep_shifted p c).trans (State.startGapTimer_shifted ..)
  · exact s.expiryStep_shifted p c

theorem State.drain_shifted (s : State) (p : PairId) (c : ChannelId) : s.Shifted (s.drain p c) := by
  have loop (turns : Nat) : ∀ s : State, s.Shifted (s.drainLoop turns p c) := by
    induction turns with
    | zero => exact State.Shifted.refl
    | succ k ih =>
      intro s
      unfold State.drainLoop
      split
      · exact (s.expiryStep_shifted p c).trans (ih _)
      · exact .refl s
  exact loop _ s

theorem State.forceExpiry_shifted (s : State) (p : PairId) : s.Shifted (s.forceExpiry p) := by
  unfold State.forceExpiry
  split
  · exact .refl s
  · exact ((s.expireGap_shifted ..).trans (State.setCounters_shifted ..)).trans (State.raise_shifted ..)

theorem State.releaseAll_shifted (s : State) (p : PairId) : s.Shifted (s.releaseAll p) := by
  have loop (turns : Nat) : ∀ s : State, s.Shifted (s.releaseAllLoop turns p) := by
    induction turns with
    | zero => exact State.Shifted.refl
    | succ k ih =>
      intro s
      unfold State.releaseAllLoop
      split
      · exact .refl s
      · exact (s.drain_shifted ..).trans (ih _)
  exact loop _ s

/-! ## The case table, heartbeats and unlisted frames -/

theorem State.firstFrame_shifted (s : State) (p : PairId) (f : ListedFrame) : s.Shifted (s.firstFrame p f) :=
  ((s.deliver_shifted ..).trans (State.setExpected_shifted ..)).trans (State.insertTwin_shifted ..)

theorem State.filterWindow_shifted (s : State) (p : PairId) (keep : TwinEntry → Bool) :
    s.Shifted (s.setPair p { s.pairs[p] with window := s.pairs[p].window.filter keep }) :=
  s.setPair_shifted p _ (PairArbiter.kept_of_sublist (.refl _) List.filter_sublist rfl)

theorem State.sequenceReset_shifted (s : State) (p : PairId) (f : ListedFrame) : s.Shifted (s.sequenceReset p f) :=
  (((((s.drain_shifted ..).trans (State.deliver_shifted ..)).trans (State.setExpected_shifted ..)).trans
    (State.filterWindow_shifted ..)).trans (State.raise_shifted ..)).trans
    (State.insertTwin_shifted ..)

theorem State.oldFrame_shifted (s : State) (p : PairId) (f : ListedFrame) : s.Shifted (s.oldFrame p f) := by
  unfold State.oldFrame
  split
  · exact s.setPair_shifted p _ (PairArbiter.twinLookup_kept ‹_›)
  · exact s.setCounters_shifted ..

theorem State.inStepFrame_shifted (s : State) (p : PairId) (f : ListedFrame) (d : Int) : s.Shifted (s.inStepFrame p f d) :=
  (((s.deliver_shifted ..).trans (State.setExpected_shifted ..)).trans (State.insertTwin_shifted ..)).trans
    (State.release_shifted ..)

theorem State.giveUpGap_shifted (s : State) (p : PairId) (f : ListedFrame) (gap : Nat) : s.Shifted (s.giveUpGap p f gap) :=
  (((s.deliver_shifted ..).trans (State.accountGap_shifted ..)).trans (State.setExpected_shifted ..)).trans
    (State.insertTwin_shifted ..)

theorem State.hold_shifted (s : State) (p : PairId) (f : ListedFrame) (h : s.pairs[p].pool.length < 128) :
    s.Shifted (s.hold p f) := by
  have held : s.Shifted ((s.setPool p (insertHeld (s.width p) (s.expectedOf f.channel) f s.pairs[p].pool)).insertTwin p f
      .data) :=
    (s.setPool_shifted p _ fun _ => by rw [insertHeld_length]; exact h).trans (State.insertTwin_shifted ..)
  unfold State.hold
  dsimp only
  split
  · exact held
  · exact held.trans (State.startGapTimer_shifted ..)

theorem State.aheadFrame_shifted {s t : State} {p : PairId} {f : ListedFrame} {d : Int}
    (h : s.aheadFrame p f d = some t) : s.Shifted t := by
  unfold State.aheadFrame at h
  split at h
  · obtain rfl := Option.some.inj h
    exact s.setPair_shifted p _ (PairArbiter.twinLookup_kept ‹_›)
  · split_ifs at h with _ _ hroom
    · obtain rfl := Option.some.inj h
      exact s.setCounters_shifted ..
    · obtain rfl := Option.some.inj h
      exact s.giveUpGap_shifted ..
    · obtain rfl := Option.some.inj h
      exact s.hold_shifted p f hroom

theorem State.examineData_shifted {s t : State} {p : PairId} {f : ListedFrame} (h : s.examineData p f = some t) :
    s.Shifted t := by
  rcases s.examineData_cases p f with ⟨-, e⟩ | ⟨x, -, e | e | ⟨d, e⟩ | ⟨d, -, e⟩⟩ <;> rw [e] at h
  · exact Option.some.inj h ▸ s.firstFrame_shifted p f
  · exact Option.some.inj h ▸ s.sequenceReset_shifted p f
  · exact Option.some.inj h ▸ s.oldFrame_shifted p f
  · exact Option.some.inj h ▸ s.inStepFrame_shifted p f d
  · exact State.aheadFrame_shifted h

theorem State.dataFrame_shifted (s : State) (p : PairId) (f : ListedFrame) : s.Shifted (s.dataFrame p f) := by
  unfold State.dataFrame
  split
  · exact State.examineData_shifted ‹_›
  · dsimp only
    cases h : (s.forceExpiry p).examineData p f with
    | none => exact s.forceExpiry_shifted p
    | some t => exact (s.forceExpiry_shifted p).trans (State.examineData_shifted h)

theorem State.deliverBeat_shifted (s : State) (p : PairId) (f : ListedFrame) : s.Shifted (s.deliverBeat p f) := by
  unfold State.deliverBeat
  split
  · exact ((s.deliver_shifted ..).trans (State.setExpected_shifted ..)).trans (State.insertTwin_shifted ..)
  · exact (s.deliver_shifted ..).trans (State.insertTwin_shifted ..)

theorem State.heartbeat_shifted (s : State) (p : PairId) (f : ListedFrame) : s.Shifted (s.heartbeat p f) := by
  unfold State.heartbeat
  split
  · exact s.setPair_shifted p _ (PairArbiter.twinLookup_kept ‹_›)
  · exact s.deliverBeat_shifted p f

theorem State.unlistedFrame_shifted (s : State) (p : PairId) (r : FrameRecord) (decodable : Bool) :
    s.Shifted (s.unlistedFrame p r decodable) := by
  unfold State.unlistedFrame
  dsimp only
  split
  · exact s.setCounters_shifted ..
  · exact (s.setCounters_shifted ..).trans (State.deliver_shifted ..)

/-- Whatever a taken record is, handling it is a change the arbiters can make (R74). -/
theorem State.handleRecord_shifted (s : State) (p : PairId) (r : FrameRecord) : s.Shifted (s.handleRecord p r) := by
  rcases s.handleRecord_cases p r with ⟨decodable, e⟩ | ⟨c, q, n, -, ⟨-, e⟩ | ⟨-, e⟩⟩ <;> rw [e]
  · exact s.unlistedFrame_shifted ..
  · exact s.heartbeat_shifted ..
  · exact s.dataFrame_shifted ..

theorem State.clearPair_shifted (s : State) (p : PairId) : s.Shifted (s.clearPair p) := by
  have h := s.setPair_shifted p { s.pairs[p] with
    pool := [], window := [], lag := .empty, dropBefore := false
    counters := { s.pairs[p].counters with flushed := satAdd s.pairs[p].counters.flushed s.pairs[p].pool.length } }
    (PairArbiter.kept_of_sublist (List.nil_sublist _) (List.nil_sublist _) rfl)
  exact h.trans ⟨rfl, rfl, fun _ => .refl _, id⟩

end Sys2Proof.Machine
end

section
/-! What a step can do. `State.Effect` lists what an event can do to the blocks before anything follows it;
`State.Outcomes` says how a command acts through such effects: on its own, with the settling of the event after it, at
the end of a request, or by a reset. -/

namespace Sys2Proof.Machine

/-! ## A feed line -/

/-- What `State.LinesSound` asks of one line under a silence limit (R44, R45, R47, R54). -/
def FeedLine.Sound (f : FeedLine) (limit : Nat) : Prop :=
  (f.mode ≠ .live → f.buffer = []) ∧ (f.reception ≠ none → f.link = .up ∧ f.mode ≠ .off) ∧
  ((f.silenceStart ≠ none ∨ f.silent = true) → f.link = .up ∧ f.mode ≠ .off ∧ limit ≠ 0 ∧
    ¬(f.silenceStart ≠ none ∧ f.silent = true))

/-- A change of a line in its mode that keeps it sound and its buffer within 64 records. -/
structure FeedLine.Kept (f g : FeedLine) (limit : Nat) : Prop where
  mode : g.mode = f.mode
  sound : f.Sound limit → g.Sound limit
  room : f.buffer.length ≤ 64 → g.buffer.length ≤ 64

theorem FeedLine.setCounters_kept (f : FeedLine) (k : LineCounters) (limit : Nat) :
    f.Kept { f with counters := k } limit := ⟨rfl, id, id⟩

theorem FeedLine.startSilence_cases (f : FeedLine) (limit tick : Nat) :
    (f.link = .up ∧ f.mode ≠ .off ∧ limit ≠ 0 ∧
      f.startSilence limit tick = { f with silenceStart := some tick, silent := false }) ∨
    ((f.link = .down ∨ f.mode = .off ∨ limit = 0) ∧ f.startSilence limit tick = { f with silent := false }) := by
  unfold FeedLine.startSilence
  split_ifs with h
  · exact .inl ⟨h.1, h.2.1, h.2.2, rfl⟩
  · refine .inr ⟨?_, rfl⟩
    cases hl : f.link with
    | down => exact .inl rfl
    | up =>
      rw [hl] at h
      by_cases hm : f.mode = .off
      · exact .inr (.inl hm)
      · exact .inr (.inr (not_not.1 fun hz => h ⟨rfl, hm, hz⟩))

/-- The silence timer started or left, on a line that is otherwise as it was sound. -/
theorem FeedLine.startSilence_sound (f : FeedLine) (limit tick : Nat) (hbuffer : f.mode ≠ .live → f.buffer = [])
    (hreception : f.reception ≠ none → f.link = .up ∧ f.mode ≠ .off)
    (hstopped : f.link = .down ∨ f.mode = .off ∨ limit = 0 → f.silenceStart = none) :
    (f.startSilence limit tick).Sound limit := by
  rcases f.startSilence_cases limit tick with ⟨hup, hmode, hlimit, e⟩ | ⟨hno, e⟩ <;> rw [e]
  · exact ⟨hbuffer, hreception, fun _ => ⟨hup, hmode, hlimit, by simp⟩⟩
  · exact ⟨hbuffer, hreception, by simp [hstopped hno]⟩

/-- A sound line has no silence timer where R54 allows none. -/
theorem FeedLine.Sound.silence_stopped {f : FeedLine} {limit : Nat} (h : f.Sound limit)
    (hno : f.link = .down ∨ f.mode = .off ∨ limit = 0) : f.silenceStart = none ∧ f.silent = false := by
  by_contra hrun
  obtain ⟨hup, hmode, hlimit, -⟩ := h.2.2 (by
    rw [not_and_or, Bool.not_eq_false] at hrun
    exact hrun)
  rcases hno with hno | hno | hno
  · rw [hno] at hup; cases hup
  · exact hmode hno
  · exact hlimit hno

theorem FeedLine.startSilence_mode (f : FeedLine) (limit tick : Nat) : (f.startSilence limit tick).mode = f.mode := by
  rcases f.startSilence_cases limit tick with ⟨-, -, -, e⟩ | ⟨-, e⟩ <;> rw [e]

theorem FeedLine.startSilence_buffer (f : FeedLine) (limit tick : Nat) :
    (f.startSilence limit tick).buffer = f.buffer := by
  rcases f.startSilence_cases limit tick with ⟨-, -, -, e⟩ | ⟨-, e⟩ <;> rw [e]

theorem FeedLine.truncate_eq (f : FeedLine) :
    f.truncate = { f with reception := none, counters := f.truncate.counters } := by
  unfold FeedLine.truncate
  split
  · rename_i h
    cases f
    simp_all
  · rfl

theorem FeedLine.changeLink_kept (f : FeedLine) (link : LinkState) (limit tick : Nat) (hlink : f.link ≠ link) :
    f.Kept (f.changeLink link limit tick) limit := by
  unfold FeedLine.changeLink
  dsimp only
  split_ifs with hoff
  · refine ⟨rfl, fun h => ?_, id⟩
    obtain ⟨hstart, hsilent⟩ := h.silence_stopped (.inr (.inl hoff))
    exact ⟨h.1, fun hr => absurd hoff (h.2.1 hr).2, by simp [hstart, hsilent]⟩
  · cases link with
    | down =>
      dsimp only
      rw [FeedLine.truncate_eq]
      exact ⟨rfl, fun h => ⟨h.1, by simp [FeedLine.stopSilence], by simp [FeedLine.stopSilence]⟩, id⟩
    | up =>
      have hdown : f.link = .down := by cases hl : f.link with
        | down => rfl
        | up => exact absurd hl hlink
      refine ⟨FeedLine.startSilence_mode .., fun h => ?_, fun h => by simpa only [FeedLine.startSilence_buffer] using h⟩
      have hnone : f.reception = none := by
        by_contra hr
        have := (h.2.1 hr).1
        rw [hdown] at this
        cases this
      exact FeedLine.startSilence_sound _ limit tick h.1 (fun hr => absurd hnone hr)
        fun _ => (h.silence_stopped (.inl hdown)).1

theorem FeedLine.startFrame_kept (f : FeedLine) (capture limit : Nat) : f.Kept (f.startFrame capture) limit := by
  unfold FeedLine.startFrame
  split_ifs with h
  · exact ⟨rfl, fun hs => ⟨hs.1, fun _ => ⟨h.2.1, h.1⟩, hs.2.2⟩, id⟩
  · exact ⟨rfl, id, id⟩

theorem FeedLine.endFrame_kept (f : FeedLine) (k : LineCounters) (limit : Nat) :
    f.Kept { f with reception := none, counters := k } limit :=
  ⟨rfl, fun h => ⟨h.1, fun hr => absurd rfl hr, h.2.2⟩, id⟩

theorem FeedLine.arrive_kept (f : FeedLine) (a : Arrival) (limit tick : Nat) :
    f.Kept (f.arrive a limit tick) limit := by
  refine ⟨FeedLine.startSilence_mode .., fun h => ?_, fun h => by
    simpa only [FeedLine.arrive, FeedLine.startSilence_buffer] using h⟩
  exact FeedLine.startSilence_sound _ limit tick h.1 (fun hr => absurd rfl hr) fun hno => (h.silence_stopped hno).1

theorem FeedLine.append_kept (f : FeedLine) (r : FrameRecord) (limit : Nat) (hlive : f.mode = .live)
    (hroom : f.buffer.length < 64) : f.Kept { f with buffer := f.buffer ++ [r] } limit :=
  ⟨rfl, fun h => ⟨fun hm => absurd hlive hm, h.2⟩, fun _ => by simpa using hroom⟩

theorem FeedLine.tail_kept (f : FeedLine) (r : FrameRecord) (rest : List FrameRecord) (limit : Nat)
    (h : f.buffer = r :: rest) : f.Kept { f with buffer := rest } limit := by
  refine ⟨rfl, fun hs => ⟨fun hm => ?_, hs.2⟩, fun hb => ?_⟩
  · exact absurd (h.symm.trans (hs.1 hm)) (by simp)
  · rw [h, List.length_cons] at hb
    exact (Nat.le_succ _).trans hb

theorem FeedLine.expireSilence_kept (f : FeedLine) (limit : Nat) (h : f.silenceStart ≠ none) :
    f.Kept { f with silenceStart := none, silent := true } limit := by
  refine ⟨rfl, fun hs => ⟨hs.1, hs.2.1, fun _ => ?_⟩, id⟩
  obtain ⟨hup, hmode, hlimit, -⟩ := hs.2.2 (.inl h)
  exact ⟨hup, hmode, hlimit, by simp⟩

/-! ## Effects -/

/-- A pair whose pool, window and queue an event outside the arbiters leaves, but for a frame that leaves the queue. -/
structure PairArbiter.Aside (a b : PairArbiter) : Prop where
  pool : b.pool = a.pool
  window : b.window = a.window
  queue : b.queue.length ≤ a.queue.length

theorem PairArbiter.Aside.kept {a b : PairArbiter} (h : a.Aside b) : a.Kept b :=
  ⟨fun hp => h.pool ▸ hp, fun hw => h.window ▸ hw, h.queue.trans, fun hk => h.window ▸ hk⟩

/-- What an event can do to the blocks of the part; what follows it is not included. -/
inductive State.Effect (s : State) : State → Prop where
  | clockLock : s.clock = .awaitingLock → s.Effect { s with clock := .running, tick := 0 }
  | tick (straps : Straps) : s.clock = .running → s.Effect { s with tick := s.tick + 1, strapPins := straps }
  | notices (n : NoticeUnit) :
      ((∀ id : Fin 52, s.notices.counts[id] ≤ 255) → ∀ id : Fin 52, n.counts[id] ≤ 255) → s.Effect (s.setNotices n)
  | delivery (d : DlineId) (x : DeliveryLine) : x.replies = s.deliveries[d].replies → s.Effect (s.setDelivery d x)
  | label (r : RefId) (byte : Byte) (framingError : Bool) :
      s.Effect (s.setMonitor r (s.monitors[r].labelByte byte framingError))
  | pulse (r : RefId) (x : Nat) : s.tables.reference[r].enabled = true → x / 16 = s.tick →
      s.Effect (s.monitorEvent r (s.monitors[r].pulse s.tables.reference[r] x).1
        (s.monitors[r].pulse s.tables.reference[r] x).2)
  | miss (r : RefId) : s.Effect (s.monitorEvent r
      { s.monitors[r].toAbsent with misses := satInc s.monitors[r].misses } s.monitors[r].state.lossEvent)
  | discipline (d : Discipline) : s.timeBase.discipline = some d → d.capture / 16 < s.tick → s.Effect (s.applyDiscipline d)
  | holdover : s.Effect (s.setTimeBase { s.timeBase with holdoverExpired := true })
  | manage (r : AnchorRecord) : s.timeBase.following = false → r.effective = s.tick * 16 + 65536 →
      (r.withinClamp ∨ r.rate = s.timeBase.current.rate) → s.Effect (s.installManaged r)
  | line (l : LineId) (f : FeedLine) : s.lines[l].Kept f s.tables.line[l].silenceLimit → s.Effect (s.setLine l f)
  | mode (l : LineId) (m : LineMode) : (m = .live → s.tables.profile[pairOf l].enabled = true) →
      s.lines[l].mode ≠ m → s.Effect (s.changeMode l m)
  | pair (p : PairId) (a : PairArbiter) : s.pairs[p].Aside a → s.Effect (s.setPair p a)
  | take (p : PairId) (l : LineId) (r : FrameRecord) (rest : List FrameRecord) : l = sideA p ∨ l = sideB p →
      s.lines[l].buffer = r :: rest → s.Effect ((s.removeHead p l rest).handleRecord p r)
  | gap (p : PairId) (c : ChannelId) (x e : Nat) : s.channels[c].sequence = .gapOpen x e →
      s.tables.channel[c].belongsTo p = true → s.Effect (s.expireGap p c)
  | clear (p : PairId) : s.Effect (s.clearPair p)
  | lineEntry (l : LineId) (e : LineEntry) :
      s.Effect ((s.setTables { s.tables with line := s.tables.line.set l e }).setLine l
        (s.lines[l].newLimit e.silenceLimit s.tick))
  | profileEntry (p : PairId) (e : ProfileEntry) : s.pairLive p = false →
      (e.sequenceWidth = 4 ∨ e.sequenceWidth = 8) → e.countWidth ≤ 2 → s.Effect (s.writeProfile p e)
  | channelEntry (c : ChannelId) (e : ChannelEntry) : s.channelGate c e = false → s.duplicateKey c e = false →
      s.Effect (s.writeChannel c e)
  | disable (r : RefId) (e : ReferenceEntry) : e.enabled = false →
      s.Effect ((s.setTables { s.tables with reference := s.tables.reference.set r e }).disableReference r)
  | enable (r : RefId) (e : ReferenceEntry) : s.tables.reference[r].enabled = false → e.enabled = true →
      s.Effect ((s.setTables { s.tables with reference := s.tables.reference.set r e }).enableReference r)
  | referenceEntry (r : RefId) (e : ReferenceEntry) : e.enabled = s.tables.reference[r].enabled →
      s.Effect (s.setTables { s.tables with reference := s.tables.reference.set r e })
  | timebaseEntry (e : TimebaseEntry) : s.Effect (s.setTables { s.tables with timebase := e })
  | noticeEntry (e : NoticeEntry) : s.Effect (s.setTables { s.tables with notice := e })
  | deliveryEntry (d : DlineId) (e : DeliveryTableEntry) : s.Effect (s.writeDelivery d e)

/-- Effects one after another. -/
def State.Effects : State → State → Prop := Relation.ReflTransGen State.Effect

theorem State.Effects.refl (s : State) : s.Effects s := Relation.ReflTransGen.refl

theorem State.Effect.effects {s t : State} (h : s.Effect t) : s.Effects t := Relation.ReflTransGen.single h

theorem State.Effects.trans {s t u : State} (h : s.Effects t) (g : t.Effects u) : s.Effects u :=
  Relation.ReflTransGen.trans h g

theorem State.Effects.andThen {s t u : State} (h : s.Effects t) (g : t.Effect u) : s.Effects u := h.trans g.effects

/-- What every single effect keeps, effects one after another keep. -/
theorem State.Effects.keeps {I : State → Prop} (step : ∀ s t, s.Effect t → I s → I t) {s t : State} (h : s.Effects t)
    (hs : I s) : I t := by
  induction h with
  | refl => exact hs
  | tail _ h ih => exact step _ _ h ih

theorem State.raise_effect (s : State) (id : Fin 52) : s.Effect (s.raise id) :=
  .notices _ (s.raise_counts_le id)

theorem State.stopSpacing_effect (s : State) : s.Effect s.stopSpacing := .notices _ id

theorem State.clearNoticeSources_effect (s : State) : s.Effect s.clearNoticeSources :=
  .notices _ fun _ id => by simp

/-! ## Outcomes -/

/-- Nothing that a build, a choice or the management unit looks at differs. -/
structure State.SameReady (s t : State) : Prop where
  pairs : t.pairs = s.pairs
  tables : t.tables = s.tables
  notices : t.notices = s.notices
  unit : t.unit = s.unit
  inbox : t.inbox = s.inbox
  transmitter : ∀ d : DlineId, t.deliveries[d].transmitter = s.deliveries[d].transmitter
  replies : ∀ d : DlineId, t.deliveries[d].replies = s.deliveries[d].replies

theorem State.SameReady.refl (s : State) : s.SameReady s :=
  ⟨rfl, rfl, rfl, rfl, rfl, fun _ => rfl, fun _ => rfl⟩

/-- What a command can do. -/
inductive State.Outcomes (s : State) : State → Prop where
  /-- RESET_N goes low or is released (R178). -/
  | reset (clock : ClockState) (pins latch : Straps) : clock ≠ .running → s.Outcomes (s.resetBlocks clock pins latch)
  /-- Effects that make nothing possible elsewhere. -/
  | aside {t : State} : s.Effects t → s.SameReady t → s.Outcomes t
  /-- Effects, and what follows them (log 6). -/
  | event {t : State} : s.Effects t → s.Outcomes t.settle
  /-- Effects with which the request being executed ends (R152). -/
  | request {t : State} (c c' : CommandInFlight) (st : Status) (data : List Byte) : s.unit = .executing c → s.Effects t →
      s.Outcomes (t.afterRequest c' st data)
  /-- An entry of a TABLE_WRITE that has more to write (R158). -/
  | entry {t : State} (c : CommandInFlight) (written : Nat) (clamped : Bool) : s.unit = .executing c → s.Effects t →
      s.Outcomes ((t.setUnit (.executing { c with written := written, clamped := clamped })).settleUnit)
  /-- A command received into the inbox (R148). -/
  | command (d : DlineId) (x : DeliveryLine) (k : InboxCommand) : x.replies = s.deliveries[d].replies →
      s.inbox.length < 4 → s.Outcomes (((s.setDelivery d x).setInbox (s.inbox ++ [k])).settleUnit)

theorem State.Outcomes.nothing (s : State) : s.Outcomes s := .aside (.refl s) (.refl s)

theorem State.whenReleased_outcomes (s : State) (f : State → State) (h : s.Outcomes (f s)) :
    s.Outcomes (s.whenReleased f) := by
  unfold State.whenReleased
  split
  · exact .nothing s
  · exact h

theorem State.whenRunning_outcomes (s : State) (f : State → State) (h : s.clock = .running → s.Outcomes (f s)) :
    s.Outcomes (s.whenRunning f) := by
  unfold State.whenRunning
  split
  · exact h ‹_›
  · exact .nothing s

end Sys2Proof.Machine
end

section
/-! The rows of the table, each as one of the outcomes of `State.Outcomes`. -/

namespace Sys2Proof.Machine

theorem State.setDelivery_effects (s : State) (d : DlineId) (x : DeliveryLine)
    (h : x.replies = s.deliveries[d].replies) : s.Effects (s.setDelivery d x) := (State.Effect.delivery d x h).effects

theorem State.setPair_effects (s : State) (p : PairId) (a : PairArbiter) (h : s.pairs[p].Aside a) :
    s.Effects (s.setPair p a) := (State.Effect.pair p a h).effects

/-! ## Time base, references and feed lines -/

theorem State.expireHoldover_effects (s : State) : s.Effects s.expireHoldover := by
  unfold State.expireHoldover
  split
  · split
    · exact State.Effect.holdover.effects.andThen (State.raise_effect ..)
    · exact .refl s
  · exact .refl s

theorem now_add_phase (s : State) (phase : Phase) : (s.now + phase.val) / 16 = s.tick := by
  have := phase.isLt
  rw [State.now]
  omega

theorem State.pulseOn_effects (s : State) (r : RefId) (phase : Phase) : s.Effects (s.pulseOn r phase) := by
  unfold State.pulseOn
  dsimp only
  split
  · exact (State.Effect.pulse r _ ‹_› (now_add_phase s phase)).effects
  · exact .refl s

theorem State.pulses_effects (s : State) (edges : PulseEdges) : s.Effects (s.pulses edges) := by
  cases edges with
  | one r phase => exact s.pulseOn_effects r phase
  | both phase0 phase1 =>
    unfold State.pulses
    dsimp only
    split
    · exact (s.pulseOn_effects 0 phase0).trans (State.pulseOn_effects ..)
    · exact (s.pulseOn_effects 1 phase1).trans (State.pulseOn_effects ..)

theorem State.expirePulse_effects (s : State) (r : RefId) : s.Effects (s.expirePulse r) := by
  unfold State.expirePulse
  split
  · split
    · exact (State.Effect.miss r).effects
    · exact .refl s
  · exact .refl s

theorem State.expireSilence_effects (s : State) (l : LineId) : s.Effects (s.expireSilence l) := by
  unfold State.expireSilence
  split
  · rename_i t h
    have hrun : s.lines[l].silenceStart ≠ none := by
      intro hnone
      rw [State.silenceExpiry, hnone] at h
      cases h
    split
    · exact (State.Effect.line l _ (FeedLine.expireSilence_kept _ _ hrun)).effects.andThen (State.raise_effect ..)
    · exact .refl s
  · exact .refl s

theorem State.noteFirstRecord_effects (s : State) (p : PairId) : s.Effects (s.noteFirstRecord p) := by
  unfold State.noteFirstRecord
  split
  · exact s.setPair_effects p _ ⟨rfl, rfl, Nat.le_refl _⟩
  · exact .refl s

theorem State.noteFirstRecord_eq (s : State) (p : PairId) :
    s.noteFirstRecord p = { s with pairs := (s.noteFirstRecord p).pairs } := by
  unfold State.noteFirstRecord
  split <;> rfl

theorem State.appendRecord_effects (s : State) (r : FrameRecord) (hlive : s.lines[r.line].mode = .live) :
    s.Effects (s.appendRecord r) := by
  unfold State.appendRecord
  dsimp only
  split
  · have hroom : s.lines[r.line].buffer.length < 64 := ‹_›
    refine (s.noteFirstRecord_effects (pairOf r.line)).andThen ?_
    rw [s.noteFirstRecord_eq]
    exact .line r.line _ (FeedLine.append_kept _ r _ hlive hroom)
  · exact (State.Effect.line r.line _ (FeedLine.setCounters_kept ..)).effects.andThen (State.raise_effect ..)

theorem State.goodFrame_effects (s : State) (l : LineId) (capture : Nat) (bytes : List Byte) :
    s.Effects (s.goodFrame l capture bytes) := by
  unfold State.goodFrame
  dsimp only
  have arrived := (State.Effect.line (s := s) l _ (FeedLine.arrive_kept s.lines[l]
    ⟨s.timeBase.stamp capture s.tables.line[l].lineDelay, s.timeBase.quality⟩
    s.tables.line[l].silenceLimit s.tick)).effects
  split
  · exact arrived.trans (State.appendRecord_effects _ _ ‹_›)
  · exact arrived

theorem State.completeFrame_effects (s : State) (l : LineId) (bytes : List Byte) (receiveError : Bool) :
    s.Effects (s.completeFrame l bytes receiveError) := by
  unfold State.completeFrame
  dsimp only
  split
  · exact .refl s
  · split
    · exact .refl s
    · split
      · exact s.goodFrame_effects ..
      · exact (State.Effect.line l _ (FeedLine.endFrame_kept ..)).effects

/-! ## Pair arbiters -/

theorem State.takingLine_side (s : State) (p : PairId) (l : LineId) (h : s.takingLine p = some l) :
    l = sideA p ∨ l = sideB p := by
  unfold State.takingLine at h
  split at h
  · cases h
  · exact .inl (Option.some.inj h).symm
  · exact .inr (Option.some.inj h).symm
  · rename_i a _ b _ _ _
    rw [← Option.some.inj h]
    split
    · exact .inl rfl
    · exact .inr rfl

theorem State.take_outcomes (s : State) (p : PairId) : s.Outcomes (s.take p) := by
  unfold State.take
  split
  · exact .nothing s
  · rename_i l hl
    split
    · exact .nothing s
    · exact .event (State.Effect.take p l _ _ (s.takingLine_side p l hl) ‹_›).effects

/-! ## Delivery lines -/

theorem State.completeTransmit_outcomes (s : State) (d : DlineId) : s.Outcomes (s.completeTransmit d) := by
  unfold State.completeTransmit
  dsimp only
  split
  · exact .nothing s
  · split
    · exact .event (s.setDelivery_effects d _ rfl)
    · exact .nothing s
  · split
    · exact .event (s.setDelivery_effects d _ rfl)
    · exact .nothing s

theorem State.deliveryLink_outcomes (s : State) (d : DlineId) (link : LinkState) : s.Outcomes (s.deliveryLink d link) := by
  unfold State.deliveryLink
  dsimp only
  split
  · exact .nothing s
  · refine .event ((State.Effect.delivery d _ ?_).effects.andThen (State.raise_effect ..))
    cases link with
    | up => rfl
    | down =>
      dsimp only
      split <;> rfl

theorem State.receiveFrame_outcomes (s : State) (d : DlineId) (bytes : List Byte) (receiveError : Bool) :
    s.Outcomes (s.receiveFrame d bytes receiveError) := by
  unfold State.receiveFrame
  dsimp only
  split
  · exact .nothing s
  · split
    · split
      · exact .command d _ _ rfl ‹_›
      · refine .event (State.Effects.andThen (s.setDelivery_effects d _ ?_) (State.raise_effect ..))
        rfl
    · refine .aside (s.setDelivery_effects d _ rfl) ⟨rfl, rfl, rfl, rfl, rfl, fun e => ?_, fun e => ?_⟩ <;>
      · by_cases he : d = e
        · subst he
          simp only [State.setDelivery, vector_getElem_set]
        · simp only [State.setDelivery, vector_getElem_set_ne _ _ _ _ he]

/-! ## Requests -/

/-- A row of a request: its effects, and the end of the request (R152). -/
theorem State.serve_outcomes (s : State) (row : Action → Option (State → CommandInFlight → Served))
    (h : ∀ c a act, row a = some act → s.Effects (act s c).state) : s.Outcomes (s.whenReleased (·.serve row)) := by
  refine s.whenReleased_outcomes _ ?_
  rcases s.serve_cases row with e | ⟨c, a, act, hu, -, hr, e⟩ <;> rw [e]
  · exact .nothing s
  · exact .request c c _ _ hu (h c a act hr)

/-- A row that only reads. -/
theorem State.serve_outcomes_of_answer (s : State) (row : Action → Option (State → CommandInFlight → Served))
    (h : ∀ c a act, row a = some act → (act s c).state = s) : s.Outcomes (s.whenReleased (·.serve row)) :=
  s.serve_outcomes row fun c a act hr => by rw [h c a act hr]; exact .refl s

theorem State.clearLine_effects (s : State) (l : LineId) (clear : Bool) : s.Effects (s.clearLine l clear) := by
  unfold State.clearLine
  split
  · exact (State.Effect.line l _ (FeedLine.setCounters_kept ..)).effects
  · exact .refl s

theorem State.clearPairCounters_effects (s : State) (p : PairId) (clear : Bool) :
    s.Effects (s.clearPairCounters p clear) := by
  unfold State.clearPairCounters
  split
  · exact s.setPair_effects p _ ⟨rfl, rfl, Nat.le_refl _⟩
  · exact .refl s

theorem State.clearDelivery_effects (s : State) (d : DlineId) (clear : Bool) : s.Effects (s.clearDelivery d clear) := by
  unfold State.clearDelivery
  split
  · exact s.setDelivery_effects d _ rfl
  · exact .refl s

theorem State.clearLag_effects (s : State) (p : PairId) (clear : Bool) : s.Effects (s.clearLag p clear) := by
  unfold State.clearLag
  split
  · exact s.setPair_effects p _ ⟨rfl, rfl, Nat.le_refl _⟩
  · exact .refl s

theorem State.serveLineMode_effects (s : State) (l : LineId) (mode : LineMode) :
    s.Effects (s.serveLineMode l mode).state := by
  unfold State.serveLineMode
  split_ifs with hbusy hsame
  · exact .refl s
  · exact .refl s
  · refine (State.Effect.mode l mode (fun hm => ?_) hsame).effects
    rw [not_and, Bool.not_eq_false] at hbusy
    exact hbusy hm

theorem State.serveSetTime_effects (s : State) (seconds ns : Nat) : s.Effects (s.serveSetTime seconds ns).state := by
  unfold State.serveSetTime
  split_ifs with h
  · exact .refl s
  · exact (State.Effect.manage (s.setTimeRecord seconds ns) (by simpa using h) rfl (.inr rfl)).effects

theorem State.serveTrimRate_effects (s : State) (off : Int) : s.Effects (s.serveTrimRate off).state := by
  unfold State.serveTrimRate
  split
  · exact .refl s
  · rename_i h
    exact (State.Effect.manage (s.trimRecord off) (by simpa using h) rfl (.inl (clampRate_range _))).effects

theorem State.serveClearFeeds_effects (s : State) (target : Option PairId) : s.Effects (s.serveClearFeeds target).state := by
  cases target with
  | some p => exact (State.Effect.clear p).effects
  | none =>
    exact (((State.Effect.clear 0).effects.andThen (.clear 1)).andThen (.clear 2)).andThen (.clear 3)

/-! ## Table writes -/

theorem State.lineWrite_effects {s t : State} {i : Nat} {bs : List Byte} {clamped : Bool}
    (h : s.lineWrite i bs = .accepted clamped t) : s.Effects t := by
  unfold State.lineWrite at h
  split at h
  · obtain ⟨-, rfl⟩ := EntryOutcome.accepted.inj h
    exact (State.Effect.lineEntry _ _).effects.trans (State.expireSilence_effects ..)
  · cases h

theorem ProfileEntry.ofBytes_bounds {bs : List Byte} {e : ProfileEntry} (h : ProfileEntry.ofBytes bs = some e) :
    (e.sequenceWidth = 4 ∨ e.sequenceWidth = 8) ∧ e.countWidth ≤ 2 := by
  unfold ProfileEntry.ofBytes at h
  split at h
  · dsimp only at h
    split_ifs at h with hb
    obtain rfl := Option.some.inj h
    exact ⟨hb.2.2.2.1, hb.2.2.2.2.2⟩
  · cases h

theorem State.profileWrite_effects {s t : State} {i : Nat} {bs : List Byte} {clamped : Bool}
    (h : s.profileWrite i bs = .accepted clamped t) : s.Effects t := by
  unfold State.profileWrite at h
  split_ifs at h with hi hlive
  split at h
  · rename_i e he
    obtain ⟨-, rfl⟩ := EntryOutcome.accepted.inj h
    obtain ⟨hwidth, hcount⟩ := ProfileEntry.ofBytes_bounds he
    exact (State.Effect.profileEntry _ e (by simpa using hlive) hwidth hcount).effects
  · cases h

theorem State.channelWrite_effects {s t : State} {i : Nat} {bs : List Byte} {clamped : Bool}
    (h : s.channelWrite i bs = .accepted clamped t) : s.Effects t := by
  unfold State.channelWrite at h
  split at h
  · split at h
    · cases h
    · split_ifs at h with hgate hkey
      obtain ⟨-, rfl⟩ := EntryOutcome.accepted.inj h
      exact (State.Effect.channelEntry _ _ (by simpa using hgate) (by simpa using hkey)).effects
  · cases h

theorem State.writeReference_effects (s : State) (r : RefId) (e : ReferenceEntry) : s.Effects (s.writeReference r e) := by
  unfold State.writeReference
  dsimp only
  split_ifs with hoff hon
  · simp only [Bool.and_eq_true, Bool.not_eq_true'] at hoff
    exact (State.Effect.disable r e hoff.2).effects
  · simp only [Bool.and_eq_true, Bool.not_eq_true'] at hon
    exact (State.Effect.enable r e hon.1 hon.2).effects
  · refine (State.Effect.referenceEntry r e ?_).effects.trans (State.expirePulse_effects ..)
    revert hoff hon
    cases e.enabled <;> cases s.tables.reference[r].enabled <;> simp

theorem State.referenceWrite_effects {s t : State} {i : Nat} {bs : List Byte} {clamped : Bool}
    (h : s.referenceWrite i bs = .accepted clamped t) : s.Effects t := by
  unfold State.referenceWrite at h
  split at h
  · split at h
    · obtain ⟨-, rfl⟩ := EntryOutcome.accepted.inj h
      exact s.writeReference_effects ..
    · cases h
  · cases h

theorem State.timebaseWrite_effects {s t : State} {i : Nat} {bs : List Byte} {clamped : Bool}
    (h : s.timebaseWrite i bs = .accepted clamped t) : s.Effects t := by
  unfold State.timebaseWrite at h
  split at h
  · split at h
    · obtain ⟨-, rfl⟩ := EntryOutcome.accepted.inj h
      exact (State.Effect.timebaseEntry _).effects.trans (State.expireHoldover_effects _)
    · cases h
  · cases h

theorem State.moveSpacing_effects (s : State) : s.Effects s.moveSpacing := by
  unfold State.moveSpacing
  split
  · split
    · exact s.stopSpacing_effect.effects
    · exact .refl s
  · exact .refl s

theorem State.noticeWrite_effects {s t : State} {i : Nat} {bs : List Byte} {clamped : Bool}
    (h : s.noticeWrite i bs = .accepted clamped t) : s.Effects t := by
  unfold State.noticeWrite at h
  split at h
  · split at h
    · obtain ⟨-, rfl⟩ := EntryOutcome.accepted.inj h
      exact (State.Effect.noticeEntry _).effects.trans (State.moveSpacing_effects _)
    · cases h
  · cases h

theorem State.deliveryWrite_effects {s t : State} {i : Nat} {bs : List Byte} {clamped : Bool}
    (h : s.deliveryWrite i bs = .accepted clamped t) : s.Effects t := by
  unfold State.deliveryWrite at h
  split at h
  · split at h
    · obtain ⟨-, rfl⟩ := EntryOutcome.accepted.inj h
      exact (State.Effect.deliveryEntry _ _).effects
    · cases h
  · cases h

theorem State.entryWrite_effects {s t : State} {table : TableId} {i : Nat} {bs : List Byte} {clamped : Bool}
    (h : s.entryWrite table i bs = .accepted clamped t) : s.Effects t := by
  cases table with
  | line => exact State.lineWrite_effects h
  | profile => exact State.profileWrite_effects h
  | channel => exact State.channelWrite_effects h
  | reference => exact State.referenceWrite_effects h
  | timebase => exact State.timebaseWrite_effects h
  | notice => exact State.noticeWrite_effects h
  | delivery => exact State.deliveryWrite_effects h

theorem State.serveEntry_outcomes (s : State) (table : TableId) : s.Outcomes (s.whenReleased (·.serveEntry table)) := by
  refine s.whenReleased_outcomes _ ?_
  rcases s.serveEntry_cases table with e | ⟨c, start, entries, bs, hu, -, -, ⟨st, -, e⟩ | ⟨clamped, t, hw, e⟩⟩ <;> rw [e]
  · exact .nothing s
  · exact .request c c _ _ hu (.refl s)
  · unfold State.acceptEntry
    dsimp only
    split
    · exact .entry c _ _ hu (State.entryWrite_effects hw)
    · exact .request c _ _ _ hu (State.entryWrite_effects hw)

/-! ## All rows -/

/-- What a command can do. -/
theorem exec_outcomes {c : Instr} {s t : State} (h : exec c s = .next t) : s.Outcomes t := by
  cases c <;> obtain rfl := Host.Outcome.next.inj h
  case powerOnReset => exact .reset _ _ _ (by decide)
  case powerOnResetRelease straps =>
    split
    · exact .reset _ _ _ (by decide)
    · exact .nothing s
  case stampingClockLock =>
    split
    · exact .aside (State.Effect.clockLock ‹_›).effects ⟨rfl, rfl, rfl, rfl, rfl, fun _ => rfl, fun _ => rfl⟩
    · exact .nothing s
  case pulseEvent edges => exact s.whenRunning_outcomes _ fun _ => .event (s.pulses_effects edges)
  case disciplineCompletion =>
    refine s.whenRunning_outcomes _ fun _ => ?_
    split
    · split
      · rename_i d hflight hdue
        exact .event (State.Effect.discipline d hflight (of_decide_eq_true hdue)).effects
      · exact .nothing s
    · exact .nothing s
  case holdoverExpiry =>
    refine s.whenRunning_outcomes _ fun _ => ?_
    split
    · split
      · exact .event s.expireHoldover_effects
      · exact .nothing s
    · exact .nothing s
  case pulseTimeoutExpiry r =>
    refine s.whenRunning_outcomes _ fun _ => ?_
    split
    · split
      · exact .event (s.expirePulse_effects r)
      · exact .nothing s
    · exact .nothing s
  case labelMessageCompletion r byte =>
    refine s.whenReleased_outcomes _ ?_
    split
    · exact .aside (State.Effect.label ..).effects ⟨rfl, rfl, rfl, rfl, rfl, fun _ => rfl, fun _ => rfl⟩
    · exact .nothing s
  case labelFramingError r =>
    refine s.whenReleased_outcomes _ ?_
    split
    · exact .aside (State.Effect.label ..).effects ⟨rfl, rfl, rfl, rfl, rfl, fun _ => rfl, fun _ => rfl⟩
    · exact .nothing s
  case feedLinkChange l link =>
    refine s.whenReleased_outcomes _ ?_
    unfold State.feedLink
    split
    · exact .nothing s
    · exact .event ((State.Effect.line l _ (FeedLine.changeLink_kept _ link _ _ ‹_›)).effects.andThen
        (State.raise_effect ..))
  case startOfFrame l phase =>
    exact s.whenRunning_outcomes _ fun _ => .aside (State.Effect.line l _ (FeedLine.startFrame_kept ..)).effects
      ⟨rfl, rfl, rfl, rfl, rfl, fun _ => rfl, fun _ => rfl⟩
  case frameCompletion l bytes receiveError =>
    exact s.whenReleased_outcomes _ (.event (s.completeFrame_effects ..))
  case silenceTimerExpiry l =>
    refine s.whenRunning_outcomes _ fun _ => ?_
    split
    · split
      · exact .event (s.expireSilence_effects l)
      · exact .nothing s
    · exact .nothing s
  case takingEvent p =>
    refine s.whenReleased_outcomes _ ?_
    split
    · exact s.take_outcomes p
    · exact .nothing s
  case gapTimerExpiry c =>
    refine s.whenRunning_outcomes _ fun _ => ?_
    split
    · rename_i p expiry hg
      split
      · unfold State.gapExpiry at hg
        split at hg
        · rename_i x e hseq
          split_ifs at hg with henabled
          refine .event (State.Effect.gap p c x e hseq ?_).effects
          simp only [Option.some.injEq, Prod.mk.injEq] at hg
          simp only [ChannelEntry.belongsTo, henabled, hg.1, Bool.true_and, beq_self_eq_true]
        · cases hg
      · exact .nothing s
    · exact .nothing s
  case deliveryLinkChange d link => exact s.whenReleased_outcomes _ (s.deliveryLink_outcomes d link)
  case transmitCompletion d => exact s.whenReleased_outcomes _ (s.completeTransmit_outcomes d)
  case deliveryFrameCompletion d bytes receiveError => exact s.whenReleased_outcomes _ (s.receiveFrame_outcomes ..)
  case spacingTimerExpiry =>
    refine s.whenRunning_outcomes _ fun _ => ?_
    split
    · split
      · exact .event s.stopSpacing_effect.effects
      · exact .nothing s
    · exact .nothing s
  case labelByteReceived r byte framingError =>
    exact s.whenReleased_outcomes _ (.aside (State.Effect.label ..).effects
      ⟨rfl, rfl, rfl, rfl, rfl, fun _ => rfl, fun _ => rfl⟩)
  case tick straps =>
    exact s.whenRunning_outcomes _ fun h => .aside (State.Effect.tick straps h).effects
      ⟨rfl, rfl, rfl, rfl, rfl, fun _ => rfl, fun _ => rfl⟩
  case lineEntryWrite => exact s.serveEntry_outcomes _
  case profileEntryWrite => exact s.serveEntry_outcomes _
  case channelEntryWrite => exact s.serveEntry_outcomes _
  case referenceEntryWrite => exact s.serveEntry_outcomes _
  case timebaseEntryWrite => exact s.serveEntry_outcomes _
  case noticeEntryWrite => exact s.serveEntry_outcomes _
  case deliveryEntryWrite => exact s.serveEntry_outcomes _
  case identify | readTime | readReference | readChannels | tableRead =>
    refine s.serve_outcomes_of_answer _ fun c a act hr => ?_
    split at hr <;> cases hr
    rfl
  case readCountersLine =>
    refine s.serve_outcomes _ fun c a act hr => ?_
    split at hr <;> cases hr
    exact s.clearLine_effects ..
  case readCountersPair =>
    refine s.serve_outcomes _ fun c a act hr => ?_
    split at hr <;> cases hr
    exact s.clearPairCounters_effects ..
  case readCountersDelivery =>
    refine s.serve_outcomes _ fun c a act hr => ?_
    split at hr <;> cases hr
    exact s.clearDelivery_effects ..
  case readLag =>
    refine s.serve_outcomes _ fun c a act hr => ?_
    split at hr <;> cases hr
    exact s.clearLag_effects ..
  case readNotices =>
    refine s.serve_outcomes _ fun c a act hr => ?_
    split at hr <;> cases hr
    dsimp only
    split
    · exact s.clearNoticeSources_effect.effects
    · exact .refl s
  case setLineMode =>
    refine s.serve_outcomes _ fun c a act hr => ?_
    split at hr <;> cases hr
    exact s.serveLineMode_effects ..
  case setTime =>
    refine s.serve_outcomes _ fun c a act hr => ?_
    split at hr <;> cases hr
    exact s.serveSetTime_effects ..
  case trimRate =>
    refine s.serve_outcomes _ fun c a act hr => ?_
    split at hr <;> cases hr
    exact s.serveTrimRate_effects ..
  case clearFeeds =>
    refine s.serve_outcomes _ fun c a act hr => ?_
    split at hr <;> cases hr
    exact s.serveClearFeeds_effects _
  case clearNotices =>
    refine s.serve_outcomes _ fun c a act hr => ?_
    split at hr <;> cases hr
    exact s.clearNoticeSources_effect.effects
  case restart =>
    refine s.serve_outcomes_of_answer _ fun c a act hr => ?_
    split at hr <;> cases hr
    dsimp only
    unfold State.serveRestart
    split <;> rfl

/-- What a step can do: nothing on an empty queue, else what the command at the front does. -/
theorem step_outcomes {s t : State} (h : step s = .next t) :
    t = s ∨ ∃ rest, ({ s with pending := rest } : State).Outcomes t := by
  unfold step at h
  split at h
  · exact .inl (Host.Outcome.next.inj h).symm
  · exact .inr ⟨_, exec_outcomes h⟩

end Sys2Proof.Machine
end

section
/-! From effects to steps: an invariant kept by every effect, by the hand-over and departure of frames and commands, and
by the resets, is kept by every step. -/

namespace Sys2Proof.Machine

/-- What an invariant that does not look at the management unit must be kept by, for every step to keep it. -/
structure State.KeptByParts (I : State → Prop) : Prop where
  effect : ∀ s t, s.Effect t → I s → I t
  unit : ∀ s u, I s → I (s.setUnit u)
  inbox : ∀ s q, (s.inbox.length ≤ 4 → q.length ≤ 4) → I s → I (s.setInbox q)
  delivery : ∀ (s : State) (d : DlineId) (x : DeliveryLine),
    (s.deliveries[d].replies.length ≤ 4 → x.replies.length ≤ 4) → I s → I (s.setDelivery d x)
  restart : ∀ s, I s → I s.startRestart
  reset : ∀ (s : State) clock pins latch, clock ≠ .running → I (s.resetBlocks clock pins latch)
  pending : ∀ (s : State) rest, I s → I { s with pending := rest }

namespace State.KeptByParts

theorem effects {I : State → Prop} (h : State.KeptByParts I) {s t : State} (hst : s.Effects t) (hs : I s) : I t :=
  hst.keeps h.effect hs

theorem build {I : State → Prop} (h : State.KeptByParts I) (s : State) (hs : I s) : I s.build := by
  rcases s.build_cases with ⟨-, e⟩ | ⟨level, -, -, e⟩ <;> rw [e]
  · exact hs
  · refine h.effect s _ (.notices _ fun hcounts id => ?_) hs
    rw [NoticeUnit.countsWithout_getElem]
    split
    · exact Nat.zero_le _
    · exact hcounts id

theorem transmit {I : State → Prop} (h : State.KeptByParts I) (s : State) (d : DlineId) (kind : TransmitKind)
    (bytes : List Byte) (hs : I s) : I (s.transmit d kind bytes) :=
  h.delivery s d _ id hs

theorem choose {I : State → Prop} (h : State.KeptByParts I) (s : State) (d : DlineId) (hs : I s) : I (s.choose d) := by
  rcases s.choose_cases d with ⟨-, e⟩ | ⟨-, ⟨p, e, rest, -, hqueue, he⟩ | ⟨r, rest, hreplies, he⟩ | ⟨frame, -, -, he⟩⟩
  · rw [e]
    exact hs
  · rw [he]
    have hpopped := h.effect s _ (.pair p { s.pairs[p] with queue := rest } ⟨rfl, rfl, by simp [-Fin.getElem_fin, hqueue]⟩) hs
    exact h.transmit _ d _ _ (h.delivery _ d _ id hpopped)
  · dsimp only at he
    rw [he]
    have hsent := h.transmit _ d .reply (builtWire r.frame)
      (h.delivery s d { s.deliveries[d] with replies := rest } (by
        rw [hreplies, List.length_cons]
        exact fun hle => (Nat.le_succ _).trans hle) hs)
    split
    · exact h.restart _ hsent
    · exact hsent
  · rw [he]
    exact h.transmit _ d _ _ (h.effect s _ (.notices _ id) hs)

theorem settle {I : State → Prop} (h : State.KeptByParts I) (s : State) (hs : I s) : I s.settle :=
  h.build _ (h.choose _ 1 (h.choose _ 0 (h.build s hs)))

theorem handReply {I : State → Prop} (h : State.KeptByParts I) (s : State) (d : DlineId) (r : Reply) (hs : I s) :
    I (s.handReply d r) := by
  rcases s.handReply_cases d r with ⟨hroom, e⟩ | ⟨-, e⟩ <;> rw [e]
  · exact h.delivery s d _ (fun _ => by simpa using hroom) hs
  · exact h.effect s _ (s.raise_effect _) hs

theorem endCommand {I : State → Prop} (h : State.KeptByParts I) (s : State) (c : CommandInFlight) (hs : I s) :
    I (s.endCommand c) := by
  have hhanded (r : Reply) := h.handReply (s.setUnit .idle) c.dline r (h.unit s _ hs)
  unfold State.endCommand
  dsimp only
  split_ifs
  · exact h.restart _ (hhanded _)
  · exact h.unit _ _ (hhanded _)
  · exact hhanded _

theorem carryOn {I : State → Prop} (h : State.KeptByParts I) (s : State) (c : CommandInFlight) (hs : I s) :
    I (s.carryOn c) := by
  rcases s.carryOn_cases c with ⟨-, e⟩ | ⟨-, e⟩ <;> rw [e]
  · exact h.endCommand s c hs
  · exact h.unit s _ hs

theorem takeCommand {I : State → Prop} (h : State.KeptByParts I) (s : State) (k : InboxCommand) (hs : I s) :
    I (s.takeCommand k) := by
  unfold State.takeCommand
  split
  · exact h.handReply s _ _ hs
  · exact h.carryOn s _ hs

theorem takeCommands {I : State → Prop} (h : State.KeptByParts I) (turns : Nat) :
    ∀ s : State, I s → I (s.takeCommands turns) := by
  induction turns with
  | zero => exact fun s hs => hs
  | succ k ih =>
    intro s hs
    by_cases hstop : s.unit ≠ .idle ∨ s.inbox = []
    · rw [s.takeCommands_stop _ hstop]
      exact hs
    · obtain ⟨hidle, hinbox⟩ := not_or.1 hstop
      obtain ⟨c, rest, hinbox⟩ := List.exists_cons_of_ne_nil hinbox
      rw [s.takeCommands_succ k c rest (not_not.1 hidle) hinbox]
      refine ih _ (h.settle _ (h.takeCommand _ c (h.inbox s rest ?_ hs)))
      rw [hinbox, List.length_cons]
      exact fun hle => (Nat.le_succ _).trans hle

theorem settleUnit {I : State → Prop} (h : State.KeptByParts I) (s : State) (hs : I s) : I s.settleUnit :=
  h.takeCommands _ _ (h.settle s hs)

theorem outcomes {I : State → Prop} (h : State.KeptByParts I) {s t : State} (hst : s.Outcomes t) (hs : I s) : I t := by
  cases hst with
  | reset clock pins latch hclock => exact h.reset s clock pins latch hclock
  | aside heffects _ => exact h.effects heffects hs
  | event heffects => exact h.settle _ (h.effects heffects hs)
  | request c c' st data _ heffects => exact h.settleUnit _ (h.carryOn _ _ (h.effects heffects hs))
  | entry c written clamped _ heffects => exact h.settleUnit _ (h.unit _ _ (h.effects heffects hs))
  | command d x k hreplies hroom =>
    refine h.settleUnit _ (h.inbox _ _ (fun _ => ?_) (h.delivery s d x (fun hle => hreplies ▸ hle) hs))
    simpa using hroom

/-- Every step keeps what its parts keep. -/
theorem step {I : State → Prop} (h : State.KeptByParts I) {s t : State} (hst : step s = .next t) (hs : I s) : I t := by
  rcases step_outcomes hst with rfl | ⟨rest, hout⟩
  · exact hs
  · exact h.outcomes hout (h.pending s rest hs)

end State.KeptByParts

/-! ## Changes of one pair arbiter or channel, seen from the other blocks -/

theorem State.Shifted.timeBase {s t : State} (h : s.Shifted t) : t.timeBase = s.timeBase := by rw [h.rest]
theorem State.Shifted.lines {s t : State} (h : s.Shifted t) : t.lines = s.lines := by rw [h.rest]
theorem State.Shifted.deliveries {s t : State} (h : s.Shifted t) : t.deliveries = s.deliveries := by rw [h.rest]
theorem State.Shifted.unit {s t : State} (h : s.Shifted t) : t.unit = s.unit := by rw [h.rest]
theorem State.Shifted.inbox {s t : State} (h : s.Shifted t) : t.inbox = s.inbox := by rw [h.rest]
theorem State.Shifted.tables {s t : State} (h : s.Shifted t) : t.tables = s.tables := by rw [h.rest]

/-- The change of a mode is a change of the line, and perhaps the release of its pair's holds (R43, R113). -/
theorem State.changeMode_shifted (s : State) (l : LineId) (mode : LineMode) :
    (s.setLine l (s.lines[l].changeMode mode s.tables.line[l].silenceLimit s.tick)).Shifted (s.changeMode l mode) := by
  unfold State.changeMode
  dsimp only
  split
  · exact State.releaseAll_shifted _ _
  · exact .refl _

/-! ## The selector, seen from the other blocks -/

/-- A change that the reference side can make to the part: monitors, selection, time base and notice counts. -/
structure State.Steered (s t : State) : Prop where
  rest : t = { s with
    timeBase := t.timeBase, monitors := t.monitors, selected := t.selected, notices := t.notices }
  counts : (∀ id : Fin 52, s.notices.counts[id] ≤ 255) → ∀ id : Fin 52, t.notices.counts[id] ≤ 255

theorem State.Steered.refl (s : State) : s.Steered s := ⟨rfl, id⟩

theorem State.Steered.trans {s t u : State} (h : s.Steered t) (g : t.Steered u) : s.Steered u := by
  refine ⟨?_, g.counts ∘ h.counts⟩
  rw [g.rest]
  conv_lhs => rw [h.rest]

theorem State.setTimeBase_steered (s : State) (t : TimeBase) : s.Steered (s.setTimeBase t) := ⟨rfl, id⟩
theorem State.setSelected_steered (s : State) (r : Option RefId) : s.Steered (s.setSelected r) := ⟨rfl, id⟩
theorem State.setMonitor_steered (s : State) (r : RefId) (m : Monitor) : s.Steered (s.setMonitor r m) := ⟨rfl, id⟩
theorem State.raise_steered (s : State) (id : Fin 52) : s.Steered (s.raise id) := ⟨rfl, s.raise_counts_le id⟩

theorem State.enterTb_steered (s : State) (target : TimeBaseState) : s.Steered (s.enterTb target) := by
  rcases s.enterTb_cases target with ⟨-, e⟩ | ⟨-, e⟩ <;> rw [e]
  · exact .refl s
  · exact (s.setTimeBase_steered _).trans (State.raise_steered ..)

theorem State.switchTo_steered (s : State) (r : RefId) : s.Steered (s.switchTo r) :=
  ((s.setSelected_steered _).trans (State.setTimeBase_steered ..)).trans (State.raise_steered ..)

theorem State.tbUnselected_steered (s : State) : s.Steered s.tbUnselected := by
  unfold State.tbUnselected
  split
  · exact (s.setTimeBase_steered _).trans (State.enterTb_steered ..)
  · exact s.enterTb_steered _
  · exact .refl s

theorem State.selectorEvent_steered (s : State) (r : RefId) (e : SelectorEvent) : s.Steered (s.selectorEvent r e) := by
  cases e with
  | nothing => exact .refl s
  | becameGood =>
    rcases s.selectorBecameGood_cases r with ⟨-, e⟩ | ⟨current, -, ⟨-, -, e⟩ | e⟩ <;> rw [State.selectorEvent, e]
    · exact (s.setSelected_steered _).trans (State.enterTb_steered ..)
    · exact s.switchTo_steered r
    · exact .refl s
  | leftGood =>
    rcases s.selectorLeftGood_cases r with ⟨-, e⟩ | ⟨-, -, e⟩ | ⟨-, -, e⟩ <;> rw [State.selectorEvent, e]
    · exact .refl s
    · exact s.switchTo_steered _
    · exact ((s.setSelected_steered _).trans (State.setTimeBase_steered ..)).trans (State.tbUnselected_steered _)
  | accepted pulse =>
    rcases s.selectorAccepted_cases r pulse with e | ⟨-, e⟩ | ⟨-, e⟩ <;> rw [State.selectorEvent, e]
    · exact .refl s
    · exact s.setTimeBase_steered _
    · exact (s.switchTo_steered r).trans (State.setTimeBase_steered ..)

theorem State.monitorEvent_steered (s : State) (r : RefId) (m : Monitor) (e : SelectorEvent) :
    s.Steered (s.monitorEvent r m e) := by
  unfold State.monitorEvent
  refine State.Steered.trans ?_ (State.selectorEvent_steered ..)
  cases e.source r with
  | none => exact s.setMonitor_steered r m
  | some id => exact (s.setMonitor_steered r m).trans (State.raise_steered ..)

/-- The time base after a slew, its lock run at `run` (R15, R18, R19). -/
def TimeBase.slewed (t : TimeBase) (d : Discipline) (run : Nat) : TimeBase :=
  { t.install d.slewRecord with discipline := none, lastError := d.error, outlierRun := 0, lockRun := run }

/-- A slew in ACQUIRING: the lock run grows or starts again, and at the lock count the time base locks (R18, R19). -/
theorem State.slewAcquiring_cases (s : State) (d : Discipline) :
    ((d.withinLockLimit = true ∧ d.lockCount ≤ if d.withinLockLimit then s.timeBase.lockRun + 1 else 0) ∧
      s.slewAcquiring d = (s.setTimeBase (s.timeBase.slewed d
        (if d.withinLockLimit then s.timeBase.lockRun + 1 else 0))).enterTb .locked) ∨
    (¬(d.withinLockLimit = true ∧ d.lockCount ≤ if d.withinLockLimit then s.timeBase.lockRun + 1 else 0) ∧
      s.slewAcquiring d = s.setTimeBase (s.timeBase.slewed d
        (if d.withinLockLimit then s.timeBase.lockRun + 1 else 0))) := by
  by_cases h : d.withinLockLimit = true ∧ d.lockCount ≤ if d.withinLockLimit then s.timeBase.lockRun + 1 else 0
  · exact .inl ⟨h, if_pos h⟩
  · exact .inr ⟨h, if_neg h⟩

theorem State.applyDiscipline_steered (s : State) (d : Discipline) : s.Steered (s.applyDiscipline d) := by
  rcases s.applyDiscipline_cases d with ⟨-, -, e⟩ | ⟨-, -, e⟩ | ⟨-, -, e⟩ | ⟨-, -, -, e⟩ | ⟨-, -, -, e⟩ | ⟨-, -, e⟩ <;>
    rw [e]
  · rcases s.slewAcquiring_cases d with ⟨-, e⟩ | ⟨-, e⟩ <;> rw [e]
    · exact (s.setTimeBase_steered _).trans (State.enterTb_steered ..)
    · exact s.setTimeBase_steered _
  · exact (s.setTimeBase_steered _).trans (State.raise_steered ..)
  · exact s.setTimeBase_steered _
  · exact s.setTimeBase_steered _
  · exact ((s.setTimeBase_steered _).trans (State.raise_steered ..)).trans (State.enterTb_steered ..)
  · exact s.setTimeBase_steered _

theorem State.installManaged_steered (s : State) (r : AnchorRecord) : s.Steered (s.installManaged r) :=
  (s.setTimeBase_steered _).trans (State.enterTb_steered ..)

end Sys2Proof.Machine
end

section
/-! The reset values (R161, R178): the state that a reset or the start of a RESTART leaves holds them, and a state that
holds them meets every invariant. -/

namespace Sys2Proof.Machine

theorem getElem_replicate {α : Type} {n : Nat} (x : α) (i : Fin n) : (Vector.replicate n x)[i] = x := by
  simp [Fin.getElem_fin]

/-- Every block after a reset of either kind; the transmitters are the reset's own. -/
theorem State.holdsResetValues_of_blocks (s : State) (latch : Straps) (deliveries : Vector DeliveryLine 2)
    (clock : ClockState) (pins : Straps) (hlines : ∀ d : DlineId, deliveries[d] =
      { DeliveryLine.reset with transmitter := deliveries[d].transmitter }) :
    ({ s.resetBlocks clock pins latch with deliveries := deliveries } : State).HoldsResetValues latch := by
  refine ⟨rfl, rfl, rfl, getElem_replicate _, rfl, getElem_replicate _, getElem_replicate _, getElem_replicate _,
    hlines, rfl, rfl, getElem_replicate _, ?_, getElem_replicate _, getElem_replicate _, rfl, rfl, getElem_replicate _,
    getElem_replicate _, rfl, rfl⟩
  intro p
  fin_cases p <;> rfl

theorem State.resetBlocks_transmitter (s : State) (clock : ClockState) (pins latch : Straps) (d : DlineId) :
    (s.resetBlocks clock pins latch).deliveries[d].transmitter = .idle := by
  change (Vector.replicate 2 DeliveryLine.reset)[d].transmitter = .idle
  rw [getElem_replicate]
  rfl

theorem State.resetBlocks_holdsResetValues (s : State) (clock : ClockState) (pins latch : Straps) :
    (s.resetBlocks clock pins latch).HoldsResetValues latch := by
  refine s.holdsResetValues_of_blocks latch (Vector.replicate 2 DeliveryLine.reset) clock pins fun d => ?_
  rw [getElem_replicate]

theorem State.startRestart_holdsResetValues (s : State) : s.startRestart.HoldsResetValues s.strapPins := by
  refine s.holdsResetValues_of_blocks s.strapPins _ s.clock s.strapPins fun d => ?_
  rw [vector_getElem_map]

theorem State.reset_holdsResetValues : State.reset.HoldsResetValues 0 :=
  State.resetBlocks_holdsResetValues State.reset .awaitingLock 0 0

/-! ## The invariants at the reset values -/

theorem State.HoldsResetValues.withinCapacity {s : State} {latch : Straps} (h : s.HoldsResetValues latch) :
    s.WithinCapacity := by
  obtain ⟨-, -, -, -, -, hlines, hpairs, -, hdeliveries, -, hinbox, -, -, -, -, -, -, -, hcounts, -⟩ := h
  refine ⟨fun l => ?_, fun p => ?_, fun d => ?_, ?_, fun n => ?_⟩
  · rw [hlines]; exact Nat.zero_le _
  · rw [hpairs]; exact ⟨Nat.zero_le _, Nat.zero_le _, Nat.zero_le _⟩
  · rw [hdeliveries]; exact Nat.zero_le _
  · rw [hinbox]; exact Nat.zero_le _
  · rw [hcounts]; exact Nat.zero_le _

theorem State.HoldsResetValues.twinKeysDistinct {s : State} {latch : Straps} (h : s.HoldsResetValues latch) :
    s.TwinKeysDistinct := by
  obtain ⟨-, -, -, -, -, -, hpairs, -⟩ := h
  intro p
  rw [hpairs]
  exact List.nodup_nil

theorem State.HoldsResetValues.selectionSound {s : State} {latch : Straps} (h : s.HoldsResetValues latch) :
    s.SelectionSound := by
  obtain ⟨-, -, htime, hmonitors, hselected, -, -, -, -, -, -, -, -, -, hreference, -⟩ := h
  refine ⟨fun r hr => ?_, fun _ r => ?_, ?_, ?_, fun r => ?_⟩
  · rw [hselected] at hr
    cases hr
  · rw [hmonitors]
    decide
  · rw [htime, hselected]
    simp
  · rw [htime]
    exact fun h => absurd rfl h
  · rw [hmonitors, hreference]
    exact ⟨by simp, fun h => by cases h⟩

theorem State.HoldsResetValues.anchorsSound {s : State} {latch : Straps} (h : s.HoldsResetValues latch) :
    s.AnchorsSound := by
  obtain ⟨htick, -, htime, -⟩ := h
  unfold State.AnchorsSound AnchorRecord.withinClamp
  rw [htime, htick]
  exact ⟨⟨by decide, by decide⟩, ⟨by decide, by decide⟩, Nat.le_refl _, Nat.zero_le _, nofun, fun _ => rfl⟩

theorem State.HoldsResetValues.linesSound {s : State} {latch : Straps} (h : s.HoldsResetValues latch) : s.LinesSound := by
  obtain ⟨-, -, -, -, -, hlines, -, -, -, -, -, -, hprofile, hchannel, -⟩ := h
  refine ⟨fun l _ => ?_, fun l hl => ?_, fun p hp => ?_, fun c c' hc => ?_, fun l hl => ?_, fun p => ?_, fun l hl => ?_⟩
  · rw [hlines]
  · rw [hlines] at hl
    cases hl
  · rw [hprofile] at hp
    cases hp
  · rw [hchannel] at hc
    cases hc
  · rw [hlines] at hl
    exact absurd rfl hl
  · rw [hprofile]
    exact Nat.zero_le _
  · rw [hlines] at hl
    simp at hl

theorem State.HoldsResetValues.holdsSound {s : State} {latch : Straps} (h : s.HoldsResetValues latch) : s.HoldsSound := by
  obtain ⟨-, -, -, -, -, -, hpairs, hchannels, -, -, -, -, -, hchannel, -⟩ := h
  refine ⟨fun p _ => ?_, fun p f hf => ?_, fun p => ?_, fun p c hc => ?_, fun c _ => ?_⟩
  · rw [hpairs]
  · rw [hpairs] at hf
    cases hf
  · rw [hpairs]
    exact .nil
  · rw [hchannel] at hc
    cases hc
  · rw [hchannels]

/-- With every queue and the slot empty no group holds a frame. -/
theorem State.groupHolds_of_empty (s : State) (d : DlineId) (g : TransmitKind) (hqueues : ∀ p : PairId, s.pairs[p].queue = [])
    (hreplies : s.deliveries[d].replies = []) (hslot : s.notices.slot = none) : s.groupHolds d g = false := by
  rw [← Bool.not_eq_true]
  cases g with
  | feed =>
    rw [s.groupHolds_feed, not_not, s.feedPair_eq_none]
    exact fun q hq => ((s.feedReady_iff d q).1 hq).2 (hqueues q)
  | reply => rw [s.groupHolds_reply, not_not, hreplies]
  | notice =>
    rw [s.groupHolds_notice, hslot]
    exact fun h => h.2 rfl

theorem State.HoldsResetValues.nothingReadyWaits {s : State} {latch : Straps} (h : s.HoldsResetValues latch) :
    s.NothingReadyWaits := by
  obtain ⟨-, -, -, -, -, -, hpairs, -, hdeliveries, hunit, hinbox, -, -, -, -, -, hnotice, -, -, hslot, -⟩ := h
  refine ⟨fun d g _ => ?_, ?_, fun _ => hinbox, fun c hc => ?_, ?_⟩
  · exact s.groupHolds_of_empty d g (fun p => by rw [hpairs]) (by rw [hdeliveries]) hslot
  · rw [State.buildAllowed, hnotice]
    rfl
  · rw [hunit] at hc
    cases hc
  · rw [hunit]
    refine ⟨nofun, fun ⟨d, r, hr, _⟩ => ?_⟩
    rw [hdeliveries] at hr
    cases hr

/-- Settles O53: the state after reset holds the reset values, which meet every invariant. -/
theorem invariantsHoldAtReset : Obligations.InvariantsHoldAtReset :=
  have h := State.reset_holdsResetValues
  ⟨h.withinCapacity, h.twinKeysDistinct, h.selectionSound, h.anchorsSound, h.linesSound, h.holdsSound,
    h.nothingReadyWaits⟩

/-- Settles O2: the blocks are reset, with the straps latched. -/
theorem releaseTakesResetValues : Obligations.ReleaseTakesResetValues := fun s straps hclock =>
  ⟨s.resetBlocks .awaitingLock straps straps, by rw [exec, execPowerOnResetRelease, if_pos hclock], rfl, rfl,
    s.resetBlocks_holdsResetValues .awaitingLock straps straps, s.resetBlocks_transmitter .awaitingLock straps straps, rfl⟩

end Sys2Proof.Machine
end

section
/-! Capacities and twin keys: kept by every step. -/

namespace Sys2Proof.Machine

/-- A property of every entry, after one entry is replaced. -/
theorem forall_getElem_set {α : Type} {n : Nat} {P : Fin n → α → Prop} (v : Vector α n) (i : Fin n) (x : α) (hx : P i x)
    (h : ∀ j : Fin n, P j v[j]) (j : Fin n) : P j (v.set i x)[j] := by
  by_cases hj : i = j
  · subst hj
    rw [vector_getElem_set]
    exact hx
  · rw [vector_getElem_set_ne _ _ _ _ hj]
    exact h j

theorem State.disableReference_steered (s : State) (r : RefId) : s.Steered (s.disableReference r) :=
  s.monitorEvent_steered ..

/-! ## Capacities (R52, R91, R98, R119, R140, R148, R164) -/

theorem FeedLine.changeMode_buffer_le (f : FeedLine) (mode : LineMode) (limit tick : Nat) :
    (f.changeMode mode limit tick).buffer.length ≤ f.buffer.length := by
  have hflush : (if f.mode = .live then f.flush else f).buffer.length ≤ f.buffer.length := by
    split
    · exact Nat.zero_le _
    · exact Nat.le_refl _
  unfold FeedLine.changeMode
  dsimp only
  split
  · exact hflush
  · split
    · rw [FeedLine.startSilence_buffer]
      exact hflush
    · exact hflush

theorem FeedLine.newLimit_cases (f : FeedLine) (limit tick : Nat) : ∃ start silent,
    f.newLimit limit tick = { f with silenceStart := start, silent := silent } := by
  unfold FeedLine.newLimit
  split
  · split
    · exact ⟨_, _, rfl⟩
    · exact ⟨_, _, rfl⟩
  · split
    · split
      · exact ⟨_, _, rfl⟩
      · exact ⟨_, _, rfl⟩
    · split
      · exact ⟨_, _, rfl⟩
      · exact ⟨_, _, rfl⟩

theorem State.WithinCapacity.shifted {s t : State} (h : s.WithinCapacity) (hst : s.Shifted t) : t.WithinCapacity := by
  obtain ⟨hlines, hpairs, hdeliveries, hinbox, hcounts⟩ := h
  refine ⟨?_, fun p => ?_, ?_, ?_, hst.counts hcounts⟩
  · rw [hst.lines]
    exact hlines
  · obtain ⟨hpool, hwindow, hqueue⟩ := hpairs p
    exact ⟨(hst.pairs p).pool hpool, (hst.pairs p).window hwindow, (hst.pairs p).queue hqueue⟩
  · rw [hst.deliveries]
    exact hdeliveries
  · rw [hst.inbox]
    exact hinbox

theorem State.WithinCapacity.steered {s t : State} (h : s.WithinCapacity) (hst : s.Steered t) : t.WithinCapacity := by
  obtain ⟨hlines, hpairs, hdeliveries, hinbox, hcounts⟩ := h
  have hnotices := hst.counts hcounts
  rw [hst.rest]
  exact ⟨hlines, hpairs, hdeliveries, hinbox, hnotices⟩

theorem State.WithinCapacity.setLine {s : State} (h : s.WithinCapacity) (l : LineId) (f : FeedLine)
    (hf : s.lines[l].buffer.length ≤ 64 → f.buffer.length ≤ 64) : (s.setLine l f).WithinCapacity := by
  obtain ⟨hlines, hothers⟩ := h
  exact ⟨forall_getElem_set (P := fun _ (f : FeedLine) => f.buffer.length ≤ 64) s.lines l f (hf (hlines l)) hlines, hothers⟩

theorem State.Effect.withinCapacity {s t : State} (h : s.Effect t) (hs : s.WithinCapacity) : t.WithinCapacity := by
  cases h with
  | notices n hn => exact ⟨hs.1, hs.2.1, hs.2.2.1, hs.2.2.2.1, hn hs.2.2.2.2⟩
  | delivery d x hx =>
    obtain ⟨hlines, hpairs, hdeliveries, hrest⟩ := hs
    exact ⟨hlines, hpairs, forall_getElem_set (P := fun _ (x : DeliveryLine) => x.replies.length ≤ 4) s.deliveries d x
      (hx ▸ hdeliveries d) hdeliveries, hrest⟩
  | pulse r x _ _ => exact hs.steered (s.monitorEvent_steered ..)
  | miss r => exact hs.steered (s.monitorEvent_steered ..)
  | discipline d _ _ => exact hs.steered (s.applyDiscipline_steered d)
  | manage r _ _ _ => exact hs.steered (s.installManaged_steered r)
  | line l f hf => exact hs.setLine l f hf.room
  | mode l m _ _ =>
    exact (hs.setLine l _ (FeedLine.changeMode_buffer_le ..).trans).shifted (s.changeMode_shifted l m)
  | pair p a ha => exact hs.shifted (s.setPair_shifted p a ha.kept)
  | take p l r rest _ hbuffer =>
    have hremoved : (s.removeHead p l rest).WithinCapacity :=
      (hs.setLine l _ (FeedLine.tail_kept s.lines[l] r rest 0 hbuffer).room).shifted
        (State.setPair_shifted _ p _ (PairArbiter.kept_of_eq rfl rfl rfl))
    exact hremoved.shifted (State.handleRecord_shifted ..)
  | gap p c _ _ _ _ => exact hs.shifted (s.expireGap_shifted p c)
  | clear p => exact hs.shifted (s.clearPair_shifted p)
  | lineEntry l e =>
    refine State.WithinCapacity.setLine (s := s.setTables _) hs l _ fun hle => ?_
    obtain ⟨start, silent, heq⟩ := s.lines[l].newLimit_cases e.silenceLimit s.tick
    rw [heq]
    exact hle
  | disable r e _ =>
    refine State.WithinCapacity.steered ?_ (State.disableReference_steered _ r)
    exact hs
  | _ => exact hs

theorem State.withinCapacity_keptByParts : State.KeptByParts State.WithinCapacity where
  effect _ _ h hs := h.withinCapacity hs
  unit _ _ hs := hs
  inbox _ _ hq hs := ⟨hs.1, hs.2.1, hs.2.2.1, hq hs.2.2.2.1, hs.2.2.2.2⟩
  delivery s d x hx hs := ⟨hs.1, hs.2.1, forall_getElem_set (P := fun _ (x : DeliveryLine) => x.replies.length ≤ 4)
    s.deliveries d x (hx (hs.2.2.1 d)) hs.2.2.1, hs.2.2.2⟩
  restart s _ := s.startRestart_holdsResetValues.withinCapacity
  reset s clock pins latch _ := (s.resetBlocks_holdsResetValues clock pins latch).withinCapacity
  pending _ _ hs := hs

/-- Settles O54: every part of a step keeps the capacities. -/
theorem capacitiesHold : Obligations.CapacitiesHold := fun _ _ hs hst => State.withinCapacity_keptByParts.step hst hs

/-! ## Twin keys (R119) -/

theorem State.TwinKeysDistinct.shifted {s t : State} (h : s.TwinKeysDistinct) (hst : s.Shifted t) : t.TwinKeysDistinct :=
  fun p => (hst.pairs p).keys (h p)

theorem State.TwinKeysDistinct.steered {s t : State} (h : s.TwinKeysDistinct) (hst : s.Steered t) : t.TwinKeysDistinct := by
  rw [hst.rest]
  exact h

theorem State.Effect.twinKeysDistinct {s t : State} (h : s.Effect t) (hs : s.TwinKeysDistinct) : t.TwinKeysDistinct := by
  cases h with
  | pulse r x _ _ => exact hs.steered (s.monitorEvent_steered ..)
  | miss r => exact hs.steered (s.monitorEvent_steered ..)
  | discipline d _ _ => exact hs.steered (s.applyDiscipline_steered d)
  | manage r _ _ _ => exact hs.steered (s.installManaged_steered r)
  | mode l m _ _ => exact State.TwinKeysDistinct.shifted (s := s.setLine l _) hs (s.changeMode_shifted l m)
  | pair p a ha => exact hs.shifted (s.setPair_shifted p a ha.kept)
  | take p l r rest _ _ =>
    have hremoved : (s.removeHead p l rest).TwinKeysDistinct :=
      State.TwinKeysDistinct.shifted (s := s.setLine l _) hs
        (State.setPair_shifted _ p _ (PairArbiter.kept_of_eq rfl rfl rfl))
    exact hremoved.shifted (State.handleRecord_shifted ..)
  | gap p c _ _ _ _ => exact hs.shifted (s.expireGap_shifted p c)
  | clear p => exact hs.shifted (s.clearPair_shifted p)
  | disable r e _ =>
    refine State.TwinKeysDistinct.steered ?_ (State.disableReference_steered _ r)
    exact hs
  | _ => exact hs

theorem State.twinKeysDistinct_keptByParts : State.KeptByParts State.TwinKeysDistinct where
  effect _ _ h hs := h.twinKeysDistinct hs
  unit _ _ hs := hs
  inbox _ _ _ hs := hs
  delivery _ _ _ _ hs := hs
  restart s _ := s.startRestart_holdsResetValues.twinKeysDistinct
  reset s clock pins latch _ := (s.resetBlocks_holdsResetValues clock pins latch).twinKeysDistinct
  pending _ _ hs := hs

/-- Settles O55: every part of a step keeps the keys distinct. -/
theorem twinKeysStayDistinct : Obligations.TwinKeysStayDistinct := fun _ _ hs hst =>
  State.twinKeysDistinct_keptByParts.step hst hs

end Sys2Proof.Machine
end

section
/-! Selection and time base: monitors, selection, time base and receivers stay in agreement (R8 to R10, R34, R36, R37). -/

namespace Sys2Proof.Machine

/-- What R34 asks of a monitor under its REFERENCE entry. -/
def Monitor.Fits (m : Monitor) (e : ReferenceEntry) : Prop :=
  (m.receiver = .stopped ↔ e.enabled = false) ∧ (e.enabled = false → m.state = .absent)

/-- The time base follows a reference (R8 to R10). -/
def State.FollowsReference (s : State) : Prop := s.timeBase.state = .acquiring ∨ s.timeBase.state = .locked

/-! ## The time base -/

theorem State.enterTb_followsReference (s : State) (target : TimeBaseState) :
    (s.enterTb target).FollowsReference ↔ target = .acquiring ∨ target = .locked := by
  rw [State.FollowsReference, s.enterTb_state]

theorem State.tbUnselected_not_following (s : State) : ¬s.tbUnselected.FollowsReference := by
  unfold State.tbUnselected
  split
  · rw [State.enterTb_followsReference]
    simp
  · rw [State.enterTb_followsReference]
    simp
  · rename_i hlocked hacquiring
    exact fun h => h.elim hacquiring hlocked

theorem State.tbUnselected_discipline (s : State) :
    s.tbUnselected.timeBase.discipline = s.timeBase.discipline := by
  unfold State.tbUnselected
  split
  · obtain ⟨-, -, -, -, h⟩ := State.enterTb_keeps
      (s.setTimeBase { s.timeBase with holdoverEntryTick := s.tick }) .holdover
    exact h
  · obtain ⟨-, -, -, -, h⟩ := s.enterTb_keeps .free
    exact h
  · rfl

/-- A completed computation leaves none in flight, and a time base that follows a reference following (R14, R19). -/
theorem State.applyDiscipline_time (s : State) (d : Discipline) :
    (s.applyDiscipline d).timeBase.discipline = none ∧
      ((s.applyDiscipline d).FollowsReference ↔ s.FollowsReference) := by
  have entered (u : State) (target : TimeBaseState) (ht : target = .acquiring ∨ target = .locked)
      (hu : u.timeBase.discipline = none) (hs : s.FollowsReference) :
      (u.enterTb target).timeBase.discipline = none ∧ ((u.enterTb target).FollowsReference ↔ s.FollowsReference) := by
    obtain ⟨-, -, -, -, h⟩ := u.enterTb_keeps target
    exact ⟨h.trans hu, iff_of_true ((u.enterTb_followsReference target).2 ht) hs⟩
  rcases s.applyDiscipline_cases d with ⟨hs, -, e⟩ | ⟨hs, -, e⟩ | ⟨hs, -, e⟩ | ⟨hs, -, -, e⟩ | ⟨hs, -, -, e⟩ | ⟨-, -, e⟩ <;>
    rw [e]
  · rcases s.slewAcquiring_cases d with ⟨-, e⟩ | ⟨-, e⟩ <;> rw [e]
    · exact entered _ _ (.inr rfl) rfl (.inl hs)
    · exact ⟨rfl, .rfl⟩
  · exact ⟨rfl, .rfl⟩
  · exact ⟨rfl, .rfl⟩
  · exact ⟨rfl, .rfl⟩
  · exact entered _ _ (.inl rfl) rfl (.inr hs)
  · exact ⟨rfl, .rfl⟩

/-- A completed computation changes the time base and the notice counts only. -/
theorem State.applyDiscipline_frame (s : State) (d : Discipline) :
    s.applyDiscipline d = { s with
      timeBase := (s.applyDiscipline d).timeBase, notices := (s.applyDiscipline d).notices } := by
  rcases s.applyDiscipline_cases d with ⟨-, -, e⟩ | ⟨-, -, e⟩ | ⟨-, -, e⟩ | ⟨-, -, -, e⟩ | ⟨-, -, -, e⟩ | ⟨-, -, e⟩ <;>
    rw [e]
  · rcases s.slewAcquiring_cases d with ⟨-, e⟩ | ⟨-, e⟩ <;> rw [e]
    · rw [State.enterTb_frame]
      rfl
    · rfl
  · rfl
  · rfl
  · rfl
  · rw [State.enterTb_frame]
    rfl
  · rfl

/-- A record set by management changes the time base and the notice counts only. -/
theorem State.installManaged_frame (s : State) (r : AnchorRecord) :
    s.installManaged r = { s with
      timeBase := (s.installManaged r).timeBase, notices := (s.installManaged r).notices } := by
  rw [State.installManaged, State.enterTb_frame]
  rfl

/-- Losing the last reference changes the time base and the notice counts only (R10). -/
theorem State.tbUnselected_frame (s : State) :
    s.tbUnselected = { s with timeBase := s.tbUnselected.timeBase, notices := s.tbUnselected.notices } := by
  unfold State.tbUnselected
  split
  · rw [State.enterTb_frame]
    rfl
  · rw [State.enterTb_frame]
  · rfl

/-! ## The selector -/

/-- The part after a switch to a reference whose monitor is GOOD. -/
theorem State.switchTo_selectionSound (s : State) (r : RefId) (hgood : s.monitors[r].state = .good)
    (hfollow : s.FollowsReference) (hfits : ∀ r : RefId, s.monitors[r].Fits s.tables.reference[r]) :
    (s.switchTo r).SelectionSound := by
  refine ⟨fun r' h => ?_, nofun, iff_of_true hfollow nofun, fun h => absurd rfl h, hfits⟩
  obtain rfl := Option.some.inj h
  exact hgood

/-- The part when the selected reference is lost and the other is not GOOD. -/
theorem State.unselect_selectionSound (s : State) (hbad : ∀ r : RefId, s.monitors[r].state ≠ .good)
    (hfits : ∀ r : RefId, s.monitors[r].Fits s.tables.reference[r]) :
    ((s.setSelected none).abandonDiscipline).tbUnselected.SelectionSound := by
  have hflight := State.tbUnselected_discipline ((s.setSelected none).abandonDiscipline)
  have hfollow := State.tbUnselected_not_following ((s.setSelected none).abandonDiscipline)
  rw [State.tbUnselected_frame]
  exact ⟨nofun, fun _ => hbad, iff_of_false hfollow (fun h => h rfl), fun h => absurd hflight h, hfits⟩

/-- How what the selector is told goes with the monitor before and after the event (R30 to R33). -/
def SelectorEvent.Tells (e : SelectorEvent) (before after : MonitorState) : Prop :=
  match e with
  | .nothing => (before = .good ↔ after = .good)
  | .accepted _ => before = .good ∧ after = .good
  | .becameGood => before ≠ .good ∧ after = .good
  | .leftGood => before = .good ∧ after ≠ .good

/-- A monitor and the notice counts change, before the selector is told. -/
def State.noted (s : State) (r : RefId) (m : Monitor) (e : SelectorEvent) : State :=
  (s.setMonitor r m).raiseSome (e.source r)

theorem State.noted_eq (s : State) (r : RefId) (m : Monitor) (e : SelectorEvent) :
    s.noted r m e = { s with monitors := s.monitors.set r m, notices := (s.noted r m e).notices } := by
  unfold State.noted
  cases e.source r <;> rfl

theorem ref_cases (r r' : RefId) : r' = r ∨ r' = otherRef r := by
  fin_cases r <;> fin_cases r' <;> decide

/-- A monitor event keeps the reference side sound, whatever the changed monitor's receiver and entry were before. -/
theorem State.monitorEvent_selectionSound (s : State) (r : RefId) (m : Monitor) (e : SelectorEvent)
    (hgood : ∀ r : RefId, s.selected = some r → s.monitors[r].state = .good)
    (hnone : s.selected = none → ∀ r : RefId, s.monitors[r].state ≠ .good)
    (hfollow : s.FollowsReference ↔ s.selected ≠ none) (hflight : s.timeBase.discipline ≠ none → s.selected ≠ none)
    (htells : e.Tells s.monitors[r].state m.state) (hm : m.Fits s.tables.reference[r])
    (hothers : ∀ r' : RefId, r' ≠ r → s.monitors[r'].Fits s.tables.reference[r']) :
    (s.monitorEvent r m e).SelectionSound := by
  change ((s.noted r m e).selectorEvent r e).SelectionSound
  have hself : (s.monitors.set r m)[r] = m := vector_getElem_set ..
  have hother : (s.monitors.set r m)[otherRef r] = s.monitors[otherRef r] :=
    vector_getElem_set_ne _ _ _ _ (otherRef_ne r).symm
  have hfits : ∀ r' : RefId, (s.monitors.set r m)[r'].Fits s.tables.reference[r'] := by
    intro r'
    rcases ref_cases r r' with rfl | rfl
    · rwa [hself]
    · rw [hother]
      exact hothers _ (otherRef_ne r)
  rw [s.noted_eq]
  generalize (s.noted r m e).notices = notices
  cases e with
  | nothing =>
    have hsame (r' : RefId) : (s.monitors.set r m)[r'].state = .good ↔ s.monitors[r'].state = .good := by
      rcases ref_cases r r' with rfl | rfl
      · rw [hself]
        exact htells.symm
      · rw [hother]
    exact ⟨fun r' h => (hsame r').2 (hgood r' h), fun h r' => mt (hsame r').1 (hnone h r'), hfollow, hflight, hfits⟩
  | accepted pulse =>
    obtain ⟨hwas, hnow⟩ := htells
    have hselected : s.selected ≠ none := fun h => hnone h r hwas
    have hsame (r' : RefId) : (s.monitors.set r m)[r'].state = .good ↔ s.monitors[r'].state = .good := by
      rcases ref_cases r r' with rfl | rfl
      · rw [hself]
        exact iff_of_true hnow hwas
      · rw [hother]
    rcases State.selectorAccepted_cases { s with monitors := s.monitors.set r m, notices := notices } r pulse with
      e | ⟨-, e⟩ | ⟨-, e⟩ <;> rw [State.selectorEvent, e]
    · exact ⟨fun r' h => (hsame r').2 (hgood r' h), fun h r' => mt (hsame r').1 (hnone h r'), hfollow, hflight, hfits⟩
    · exact ⟨fun r' h => (hsame r').2 (hgood r' h), fun h r' => mt (hsame r').1 (hnone h r'), hfollow, fun _ => hselected, hfits⟩
    · obtain ⟨h1, h2, h3, -, h5⟩ := State.switchTo_selectionSound
        { s with monitors := s.monitors.set r m, notices := notices } r ((congrArg Monitor.state hself).trans hnow)
        (hfollow.2 hselected) hfits
      exact ⟨h1, h2, h3, nofun, h5⟩
  | becameGood =>
    obtain ⟨hwas, hnow⟩ := htells
    rcases State.selectorBecameGood_cases { s with monitors := s.monitors.set r m, notices := notices } r with
      ⟨-, e⟩ | ⟨current, hcurrent, ⟨-, -, e⟩ | e⟩ <;> rw [State.selectorEvent, e]
    · rw [State.tbSelected, State.enterTb_frame]
      refine ⟨fun r' h => ?_, nofun, iff_of_true (.inl (State.enterTb_state ..)) nofun, nofun, hfits⟩
      obtain rfl := Option.some.inj h
      exact (congrArg Monitor.state hself).trans hnow
    · refine State.switchTo_selectionSound _ r ((congrArg Monitor.state hself).trans hnow) (hfollow.2 ?_) hfits
      exact fun h => absurd (h.symm.trans hcurrent) nofun
    · have hcurrent : s.selected = some current := hcurrent
      refine ⟨fun r' h => ?_, fun h => absurd (h.symm.trans hcurrent) nofun, hfollow, hflight, hfits⟩
      have h : s.selected = some r' := h
      rcases ref_cases r r' with rfl | rfl
      · exact absurd (hgood _ h) hwas
      · exact (congrArg Monitor.state hother).trans (hgood _ h)
  | leftGood =>
    obtain ⟨hwas, hnow⟩ := htells
    have hselected : s.selected ≠ none := fun h => hnone h r hwas
    rcases State.selectorLeftGood_cases { s with monitors := s.monitors.set r m, notices := notices } r with
      ⟨hkept, e⟩ | ⟨-, ho, e⟩ | ⟨-, ho, e⟩ <;> rw [State.selectorEvent, e]
    · refine ⟨fun r' h => ?_, fun h => absurd h hselected, hfollow, hflight, hfits⟩
      rcases ref_cases r r' with rfl | rfl
      · exact absurd h hkept
      · exact (congrArg Monitor.state hother).trans (hgood _ h)
    · exact State.switchTo_selectionSound _ _ ho (hfollow.2 hselected) hfits
    · refine State.unselect_selectionSound _ (fun r' => ?_) hfits
      rcases ref_cases r r' with rfl | rfl
      · exact fun h => hnow ((congrArg Monitor.state hself).symm.trans h)
      · exact ho

/-! ## Monitors -/

/-- A byte on the label line moves the receiver, the slot and the label figures of a receiver that runs (R25, R34). -/
theorem Monitor.labelByte_keeps (m : Monitor) (byte : Byte) (framingError : Bool) :
    (m.labelByte byte framingError).state = m.state ∧
      ((m.labelByte byte framingError).receiver = .stopped ↔ m.receiver = .stopped) := by
  unfold Monitor.labelByte
  split
  · exact ⟨rfl, .rfl⟩
  · rename_i h
    split
    · exact ⟨rfl, iff_of_false nofun (by rw [h]; nofun)⟩
    · exact ⟨rfl, .rfl⟩
  · rename_i kept h
    have hrunning : m.receiver ≠ .stopped := by rw [h]; nofun
    split
    · exact ⟨rfl, iff_of_false nofun hrunning⟩
    · split
      · unfold Monitor.completeLabel
        split <;> exact ⟨rfl, iff_of_false nofun hrunning⟩
      · exact ⟨rfl, iff_of_false nofun hrunning⟩

/-- A pulse leaves the receiver, and tells the selector what became of the monitor (R30 to R32). -/
theorem Monitor.pulse_tells (m : Monitor) (e : ReferenceEntry) (x : Nat) :
    (m.pulse e x).1.receiver = m.receiver ∧ (m.pulse e x).2.Tells m.state (m.pulse e x).1.state := by
  unfold Monitor.pulse
  split
  · rename_i h
    rw [h]
    split
    · exact ⟨rfl, iff_of_false nofun nofun⟩
    · exact ⟨rfl, iff_of_false nofun nofun⟩
  · rename_i h
    split
    · dsimp only
      split
      · exact ⟨rfl, by rw [h]; nofun, rfl⟩
      · exact ⟨rfl, .rfl⟩
    · exact ⟨rfl, .rfl⟩
  · rename_i h
    split
    · exact ⟨rfl, h, h⟩
    · exact ⟨rfl, h, nofun⟩

/-- A monitor that falls to ABSENT tells of its loss when it was GOOD (R33, R34). -/
theorem MonitorState.lossEvent_tells (m : MonitorState) : m.lossEvent.Tells m .absent := by
  cases m with
  | good => exact ⟨rfl, nofun⟩
  | _ => exact iff_of_false nofun nofun

/-! ## Every effect -/

theorem State.SelectionSound.shifted {s t : State} (h : s.SelectionSound) (hst : s.Shifted t) : t.SelectionSound := by
  rw [hst.rest]
  exact h

theorem State.Effect.selectionSound {s t : State} (h : s.Effect t) (hs : s.SelectionSound) : t.SelectionSound := by
  obtain ⟨hgood, hnone, hfollow, hflight, hfits⟩ := hs
  cases h with
  | label r byte framingError =>
    obtain ⟨hstate, hreceiver⟩ := s.monitors[r].labelByte_keeps byte framingError
    have hall := forall_getElem_set (P := fun r' (m : Monitor) => m.state = s.monitors[r'].state ∧
      (m.receiver = .stopped ↔ s.monitors[r'].receiver = .stopped)) s.monitors r _ ⟨hstate, hreceiver⟩ fun _ => ⟨rfl, .rfl⟩
    exact ⟨fun r' h => (hall r').1.trans (hgood r' h), fun h r' e => hnone h r' ((hall r').1.symm.trans e), hfollow, hflight,
      fun r' => ⟨(hall r').2.trans (hfits r').1, fun h => (hall r').1.trans ((hfits r').2 h)⟩⟩
  | pulse r x henabled _ =>
    obtain ⟨hreceiver, htells⟩ := s.monitors[r].pulse_tells s.tables.reference[r] x
    exact s.monitorEvent_selectionSound r _ _ hgood hnone hfollow hflight htells
      ⟨by rw [hreceiver]; exact (hfits r).1, fun h => absurd (h.symm.trans henabled) nofun⟩ fun r' _ => hfits r'
  | miss r =>
    exact s.monitorEvent_selectionSound r _ _ hgood hnone hfollow hflight (MonitorState.lossEvent_tells _)
      ⟨(hfits r).1, fun _ => rfl⟩ fun r' _ => hfits r'
  | discipline d _ _ =>
    obtain ⟨hflight', hfollow'⟩ := s.applyDiscipline_time d
    rw [s.applyDiscipline_frame d]
    exact ⟨hgood, hnone, hfollow'.trans hfollow, fun h => absurd hflight' h, hfits⟩
  | manage r hidle _ _ =>
    have hselected : s.selected = none := not_not.1 fun h => by
      rw [(s.timeBase.following_iff).2 (hfollow.2 h)] at hidle
      cases hidle
    obtain ⟨-, -, -, -, hkept⟩ := (s.setTimeBase (s.timeBase.install r)).enterTb_keeps .free
    have hdiscipline : (s.installManaged r).timeBase.discipline = s.timeBase.discipline := hkept
    have hfree : ¬(s.installManaged r).FollowsReference := by
      rw [State.installManaged, State.enterTb_followsReference]
      nofun
    rw [s.installManaged_frame r]
    exact ⟨hgood, hnone, iff_of_false hfree (fun h => h hselected), fun h => hflight (fun e => h (hdiscipline.trans e)), hfits⟩
  | mode l m _ _ =>
    exact State.SelectionSound.shifted (s := s.setLine l _) ⟨hgood, hnone, hfollow, hflight, hfits⟩
      (s.changeMode_shifted l m)
  | take p l r rest _ _ =>
    exact State.SelectionSound.shifted (s := s.removeHead p l rest) ⟨hgood, hnone, hfollow, hflight, hfits⟩
      (State.handleRecord_shifted ..)
  | gap p c _ _ _ _ => exact State.SelectionSound.shifted ⟨hgood, hnone, hfollow, hflight, hfits⟩ (s.expireGap_shifted p c)
  | clear p => exact State.SelectionSound.shifted ⟨hgood, hnone, hfollow, hflight, hfits⟩ (s.clearPair_shifted p)
  | disable r e hoff =>
    refine State.monitorEvent_selectionSound _ r _ _ hgood hnone hfollow hflight (MonitorState.lossEvent_tells _) ?_
      fun r' hr' => ?_
    · have hentry : (s.tables.reference.set r e)[r] = e := vector_getElem_set ..
      exact ⟨iff_of_true rfl ((congrArg ReferenceEntry.enabled hentry).trans hoff), fun _ => rfl⟩
    · have hentry : (s.tables.reference.set r e)[r'] = s.tables.reference[r'] := vector_getElem_set_ne _ _ _ _ hr'.symm
      change s.monitors[r'].Fits (s.tables.reference.set r e)[r']
      rw [hentry]
      exact hfits r'
  | enable r e hoff hon =>
    have hall := forall_getElem_set (P := fun r' (m : Monitor) => m.state = s.monitors[r'].state) s.monitors r
      { s.monitors[r] with receiver := .hunting } rfl fun _ => rfl
    refine ⟨fun r' h => (hall r').trans (hgood r' h), fun h r' e => hnone h r' ((hall r').symm.trans e), hfollow, hflight,
      fun r' => ?_⟩
    change (s.monitors.set r { s.monitors[r] with receiver := .hunting })[r'].Fits (s.tables.reference.set r e)[r']
    rcases ref_cases r r' with rfl | rfl
    · rw [vector_getElem_set, vector_getElem_set]
      exact ⟨iff_of_false nofun (by rw [hon]; nofun), fun h => absurd (h.symm.trans hon) nofun⟩
    · rw [vector_getElem_set_ne _ _ _ _ (otherRef_ne r).symm, vector_getElem_set_ne _ _ _ _ (otherRef_ne r).symm]
      exact hfits _
  | referenceEntry r e hsame =>
    refine ⟨hgood, hnone, hfollow, hflight, fun r' => ?_⟩
    have hentry := forall_getElem_set (P := fun r' (e : ReferenceEntry) => e.enabled = s.tables.reference[r'].enabled)
      s.tables.reference r e hsame (fun _ => rfl) r'
    change s.monitors[r'].Fits (s.tables.reference.set r e)[r']
    rw [Monitor.Fits, hentry]
    exact hfits r'
  | _ => exact ⟨hgood, hnone, hfollow, hflight, hfits⟩

theorem State.selectionSound_keptByParts : State.KeptByParts State.SelectionSound where
  effect _ _ h hs := h.selectionSound hs
  unit _ _ hs := hs
  inbox _ _ _ hs := hs
  delivery _ _ _ _ hs := hs
  restart s _ := s.startRestart_holdsResetValues.selectionSound
  reset s clock pins latch _ := (s.resetBlocks_holdsResetValues clock pins latch).selectionSound
  pending _ _ hs := hs

/-- Settles O56: every part of a step keeps the selection sound. -/
theorem selectionStaysSound : Obligations.SelectionStaysSound := fun _ _ hs hst =>
  State.selectionSound_keptByParts.step hst hs

end Sys2Proof.Machine
end

section
/-! The anchor store (R3, R4, R17): every step keeps rate words within the clamp and effective points in order. -/

namespace Sys2Proof.Machine

/-! ## What a computation, a record and the selector leave in the store -/

theorem Discipline.slewRecord_withinClamp (d : Discipline) : d.slewRecord.withinClamp := clampRate_range _

theorem Discipline.stepRecord_withinClamp (d : Discipline) : d.stepRecord.withinClamp := clampRate_range _

/-- A completed computation leaves the two records, or places one at its effective point (R4, R14 to R17). -/
theorem State.applyDiscipline_store (s : State) (d : Discipline) :
    ((s.applyDiscipline d).timeBase.previous = s.timeBase.previous ∧
      (s.applyDiscipline d).timeBase.current = s.timeBase.current) ∨
    ((s.applyDiscipline d).timeBase.previous = s.timeBase.current ∧
      (s.applyDiscipline d).timeBase.current.effective = d.capture + 65536 ∧
      (s.applyDiscipline d).timeBase.current.withinClamp) := by
  rcases s.applyDiscipline_cases d with ⟨-, -, e⟩ | ⟨-, -, e⟩ | ⟨-, -, e⟩ | ⟨-, -, -, e⟩ | ⟨-, -, -, e⟩ | ⟨-, -, e⟩ <;>
    rw [e]
  · rcases s.slewAcquiring_cases d with ⟨-, e⟩ | ⟨-, e⟩ <;> rw [e]
    · obtain ⟨hprevious, hcurrent, -⟩ := (s.setTimeBase (s.timeBase.slewed d
        (if d.withinLockLimit then s.timeBase.lockRun + 1 else 0))).enterTb_keeps .locked
      rw [hprevious, hcurrent]
      exact .inr ⟨rfl, rfl, d.slewRecord_withinClamp⟩
    · exact .inr ⟨rfl, rfl, d.slewRecord_withinClamp⟩
  · exact .inr ⟨rfl, rfl, d.stepRecord_withinClamp⟩
  · exact .inr ⟨rfl, rfl, d.slewRecord_withinClamp⟩
  · exact .inl ⟨rfl, rfl⟩
  · obtain ⟨hprevious, hcurrent, -⟩ := (s.stepTime d).enterTb_keeps .acquiring
    rw [hprevious, hcurrent]
    exact .inr ⟨rfl, rfl, d.stepRecord_withinClamp⟩
  · exact .inl ⟨rfl, rfl⟩

/-- What a monitor event leaves of the store: the two records, and a computation in flight that was so before or takes
its capture from the pulse accepted (R12). -/
structure TimeBase.Steered (t u : TimeBase) (e : SelectorEvent) : Prop where
  previous : u.previous = t.previous
  current : u.current = t.current
  flight : ∀ d, u.discipline = some d → t.discipline = some d ∨ ∃ pulse, e = .accepted pulse ∧ d.capture = pulse.capture

theorem State.enterTb_steers (s : State) (target : TimeBaseState) (e : SelectorEvent) :
    s.timeBase.Steered (s.enterTb target).timeBase e := by
  obtain ⟨hprevious, hcurrent, -, -, hflight⟩ := s.enterTb_keeps target
  exact ⟨hprevious, hcurrent, fun d h => .inl (hflight ▸ h)⟩

theorem State.tbUnselected_steers (s : State) (e : SelectorEvent) : s.timeBase.Steered s.tbUnselected.timeBase e := by
  unfold State.tbUnselected
  split
  · obtain ⟨hprevious, hcurrent, hflight⟩ :=
      State.enterTb_steers (s.setTimeBase { s.timeBase with holdoverEntryTick := s.tick }) .holdover e
    exact ⟨hprevious, hcurrent, hflight⟩
  · exact s.enterTb_steers ..
  · exact ⟨rfl, rfl, fun _ => .inl⟩

theorem State.selectorEvent_steers (s : State) (r : RefId) (e : SelectorEvent) :
    s.timeBase.Steered (s.selectorEvent r e).timeBase e := by
  cases e with
  | nothing => exact ⟨rfl, rfl, fun _ => .inl⟩
  | becameGood =>
    rcases s.selectorBecameGood_cases r with ⟨-, e⟩ | ⟨current, -, ⟨-, -, e⟩ | e⟩ <;> rw [State.selectorEvent, e]
    · exact State.enterTb_steers (s.setSelected (some r)) ..
    · exact ⟨rfl, rfl, nofun⟩
    · exact ⟨rfl, rfl, fun _ => .inl⟩
  | leftGood =>
    rcases s.selectorLeftGood_cases r with ⟨-, e⟩ | ⟨-, -, e⟩ | ⟨-, -, e⟩ <;> rw [State.selectorEvent, e]
    · exact ⟨rfl, rfl, fun _ => .inl⟩
    · exact ⟨rfl, rfl, nofun⟩
    · obtain ⟨hprevious, hcurrent, hflight⟩ :=
        State.tbUnselected_steers ((s.setSelected none).abandonDiscipline) .leftGood
      refine ⟨hprevious, hcurrent, fun d h => (hflight d h).imp_left nofun⟩
  | accepted pulse =>
    have started (d : Discipline) (h : d.capture = pulse.capture) : s.timeBase.discipline = some d ∨
        ∃ p, SelectorEvent.accepted pulse = .accepted p ∧ d.capture = p.capture := .inr ⟨pulse, rfl, h⟩
    rcases s.selectorAccepted_cases r pulse with e | ⟨-, e⟩ | ⟨-, e⟩ <;> rw [State.selectorEvent, e]
    · exact ⟨rfl, rfl, fun _ => .inl⟩
    · exact ⟨rfl, rfl, fun d h => started d (Option.some.inj h ▸ rfl)⟩
    · exact ⟨rfl, rfl, fun d h => started d (Option.some.inj h ▸ rfl)⟩

theorem State.monitorEvent_steers (s : State) (r : RefId) (m : Monitor) (e : SelectorEvent) :
    s.timeBase.Steered (s.monitorEvent r m e).timeBase e := by
  change s.timeBase.Steered ((s.noted r m e).selectorEvent r e).timeBase e
  have hnoted : (s.noted r m e).timeBase = s.timeBase := by rw [s.noted_eq]
  exact hnoted ▸ State.selectorEvent_steers (s.noted r m e) r e

/-- A monitor accepts the pulse at its own capture (R32). -/
theorem Monitor.pulse_accepted (m : Monitor) (e : ReferenceEntry) (x : Nat) (pulse : AcceptedPulse)
    (h : (m.pulse e x).2 = .accepted pulse) : pulse.capture = x := by
  unfold Monitor.pulse at h
  split at h
  · split at h <;> cases h
  · split at h
    · dsimp only at h
      split at h <;> cases h
    · cases h
  · split at h
    · obtain rfl := SelectorEvent.accepted.inj h
      rfl
    · cases h

theorem MonitorState.lossEvent_not_accepted (m : MonitorState) (pulse : AcceptedPulse) : m.lossEvent ≠ .accepted pulse := by
  cases m <;> nofun

/-! ## Every effect -/

theorem State.AnchorsSound.shifted {s t : State} (h : s.AnchorsSound) (hst : s.Shifted t) : t.AnchorsSound := by
  rw [hst.rest]
  exact h

/-- A monitor event keeps the store sound when an accepted pulse is one of the present tick. -/
theorem State.monitorEvent_anchorsSound (s : State) (r : RefId) (m : Monitor) (e : SelectorEvent) (hs : s.AnchorsSound)
    (he : ∀ pulse, e = .accepted pulse → pulse.capture / 16 = s.tick) : (s.monitorEvent r m e).AnchorsSound := by
  obtain ⟨hclampP, hclampC, horder, hlead, hflight, hclock⟩ := hs
  obtain ⟨hprevious, hcurrent, hdiscipline⟩ := s.monitorEvent_steers r m e
  rw [(s.monitorEvent_steered r m e).rest]
  unfold State.AnchorsSound
  dsimp only
  rw [hprevious, hcurrent]
  refine ⟨hclampP, hclampC, horder, hlead, fun d h => ?_, hclock⟩
  rcases hdiscipline d h with h | ⟨pulse, hpulse, hcapture⟩
  · exact hflight d h
  · have := he pulse hpulse
    rw [hcapture]
    omega

theorem State.Effect.anchorsSound {s t : State} (h : s.Effect t) (hsel : s.SelectionSound) (hs : s.AnchorsSound) :
    t.AnchorsSound := by
  have ⟨hclampP, hclampC, horder, hlead, hflight, hclock⟩ := hs
  cases h with
  | clockLock hawaits =>
    have htick : s.tick = 0 := hclock (by rw [hawaits]; decide)
    rw [htick] at hlead hflight
    exact ⟨hclampP, hclampC, horder, hlead, hflight, fun _ => rfl⟩
  | tick straps hruns =>
    refine ⟨hclampP, hclampC, horder, hlead.trans (by dsimp only; omega), fun d hd => ?_, fun h => absurd hruns h⟩
    obtain ⟨hcapture, hpoint⟩ := hflight d hd
    exact ⟨hcapture.trans (Nat.le_succ _), hpoint⟩
  | pulse r x _ hx =>
    exact s.monitorEvent_anchorsSound r _ _ hs fun pulse h => by rw [Monitor.pulse_accepted _ _ _ _ h, hx]
  | miss r =>
    exact s.monitorEvent_anchorsSound r _ _ hs fun pulse h => absurd h (MonitorState.lossEvent_not_accepted _ _)
  | disable r e _ =>
    exact State.monitorEvent_anchorsSound _ r _ _ hs fun pulse h => absurd h (MonitorState.lossEvent_not_accepted _ _)
  | discipline d hd hdue =>
    obtain ⟨hcapture, hpoint⟩ := hflight d hd
    obtain ⟨hnone, -⟩ := s.applyDiscipline_time d
    have hstore := s.applyDiscipline_store d
    rw [s.applyDiscipline_frame d]
    unfold State.AnchorsSound
    dsimp only
    rcases hstore with ⟨hprevious, hcurrent⟩ | ⟨hprevious, heffective, hclamp⟩
    · rw [hprevious, hcurrent, hnone]
      exact ⟨hclampP, hclampC, horder, hlead, nofun, hclock⟩
    · rw [hprevious, heffective, hnone]
      exact ⟨hclampC, hclamp, hpoint, by omega, nofun, hclock⟩
  | manage r hidle heffective hrate =>
    obtain ⟨hprevious, hcurrent, -, -, hkept⟩ := (s.setTimeBase (s.timeBase.install r)).enterTb_keeps .free
    have hselected : s.selected = none := not_not.1 fun h => by
      rw [(s.timeBase.following_iff).2 (hsel.2.2.1.2 h)] at hidle
      cases hidle
    have hnone : s.timeBase.discipline = none := not_not.1 fun h => hsel.2.2.2.1 h hselected
    have hclamp : r.withinClamp := hrate.elim id fun h => by
      unfold AnchorRecord.withinClamp at hclampC ⊢
      rwa [h]
    rw [s.installManaged_frame r]
    unfold State.AnchorsSound
    dsimp only
    rw [State.installManaged, hprevious, hcurrent, hkept]
    refine ⟨hclampC, hclamp, ?_, heffective.le, fun d hd => ?_, hclock⟩
    · exact hlead.trans heffective.ge
    · exact absurd (hnone.symm.trans hd) nofun
  | mode l m _ _ => exact State.AnchorsSound.shifted (s := s.setLine l _) hs (s.changeMode_shifted l m)
  | take p l r rest _ _ =>
    exact State.AnchorsSound.shifted (s := s.removeHead p l rest) hs (State.handleRecord_shifted ..)
  | gap p c _ _ _ _ => exact hs.shifted (s.expireGap_shifted p c)
  | clear p => exact hs.shifted (s.clearPair_shifted p)
  | _ => exact hs

theorem State.anchorsSound_keptByParts : State.KeptByParts fun s => s.SelectionSound ∧ s.AnchorsSound where
  effect _ _ h hs := ⟨h.selectionSound hs.1, h.anchorsSound hs.1 hs.2⟩
  unit _ _ hs := hs
  inbox _ _ _ hs := hs
  delivery _ _ _ _ hs := hs
  restart s _ := ⟨s.startRestart_holdsResetValues.selectionSound, s.startRestart_holdsResetValues.anchorsSound⟩
  reset s clock pins latch _ := ⟨(s.resetBlocks_holdsResetValues clock pins latch).selectionSound,
    (s.resetBlocks_holdsResetValues clock pins latch).anchorsSound⟩
  pending _ _ hs := hs

/-- Settles O57: every part of a step keeps the selection and the store sound together. -/
theorem anchorsStaySound : Obligations.AnchorsStaySound := fun _ _ hsel hs hst =>
  (State.anchorsSound_keptByParts.step hst ⟨hsel, hs⟩).2

end Sys2Proof.Machine
end

section
/-! Lines and tables: kept in agreement by every step (R44, R47, R54, R59, R69, R71). -/

namespace Sys2Proof.Machine

/-! ## A line's mode and limit -/

theorem FeedLine.changeMode_mode (f : FeedLine) (mode : LineMode) (limit tick : Nat) :
    (f.changeMode mode limit tick).mode = mode := by
  unfold FeedLine.changeMode
  dsimp only
  split
  · exact Eq.symm ‹_›
  · split
    · exact FeedLine.startSilence_mode ..
    · rfl

/-- A sound line stays sound in its new mode: flushed on leaving LIVE, stopped in OFF, its timer started from OFF
(R43, R44). -/
theorem FeedLine.Sound.changeMode {f : FeedLine} {limit : Nat} (h : f.Sound limit) (mode : LineMode) (tick : Nat) :
    (f.changeMode mode limit tick).Sound limit := by
  have hbuffer : (if f.mode = .live then f.flush else f).buffer = [] := by
    split
    · rfl
    · exact h.1 ‹_›
  have hlink : (if f.mode = .live then f.flush else f).link = f.link := by split <;> rfl
  have hreception : (if f.mode = .live then f.flush else f).reception = f.reception := by split <;> rfl
  have hstart : (if f.mode = .live then f.flush else f).silenceStart = f.silenceStart := by split <;> rfl
  have hsilent : (if f.mode = .live then f.flush else f).silent = f.silent := by split <;> rfl
  unfold FeedLine.changeMode
  generalize (if f.mode = .live then f.flush else f) = g at *
  dsimp only
  split_ifs with hoff hwas
  · exact ⟨fun _ => hbuffer, fun hr => absurd rfl hr, by simp [FeedLine.stopSilence]⟩
  · refine FeedLine.startSilence_sound _ limit tick (fun _ => hbuffer) (fun hr => ?_) (fun _ => ?_)
    · exact absurd hwas (h.2.1 (hreception ▸ hr)).2
    · exact hstart.trans (h.silence_stopped (.inr (.inl hwas))).1
  · obtain ⟨-, hrecv, hsilence⟩ := h
    refine ⟨fun _ => hbuffer, fun hr => ?_, fun hrun => ?_⟩
    · exact ⟨hlink.trans (hrecv (hreception ▸ hr)).1, hoff⟩
    · rw [hstart, hsilent] at hrun ⊢
      obtain ⟨hup, -, hlimit, hnot⟩ := hsilence hrun
      exact ⟨hlink.trans hup, hoff, hlimit, hnot⟩

/-- A sound line stays sound under a new silence limit (R56). -/
theorem FeedLine.Sound.newLimit {f : FeedLine} {limit : Nat} (h : f.Sound limit) (limit' tick : Nat) :
    (f.newLimit limit' tick).Sound limit' := by
  obtain ⟨hbuffer, hrecv, hsilence⟩ := h
  unfold FeedLine.newLimit
  split
  · rename_i t hstart
    obtain ⟨hup, hmode, -, hnot⟩ := hsilence (.inl (by rw [hstart]; nofun))
    have hsilent : f.silent = false := by
      rw [hstart] at hnot
      simpa using hnot
    split_ifs with hlimit
    · exact ⟨hbuffer, hrecv, by simp [hsilent]⟩
    · exact ⟨hbuffer, hrecv, fun _ => ⟨hup, hmode, hlimit, hnot⟩⟩
  · rename_i hstart
    split_ifs with hsilent hlimit hstarts
    · exact ⟨hbuffer, hrecv, by simp [hstart]⟩
    · obtain ⟨hup, hmode, -, hnot⟩ := hsilence (.inr hsilent)
      exact ⟨hbuffer, hrecv, fun _ => ⟨hup, hmode, hlimit, hnot⟩⟩
    · exact ⟨hbuffer, hrecv, fun _ => ⟨hstarts.1, hstarts.2.1, hstarts.2.2, by simp [hsilent]⟩⟩
    · exact ⟨hbuffer, hrecv, by simp [hstart, hsilent]⟩

/-! ## Pairs of lines -/

theorem pairOf_sideA (p : PairId) : pairOf (sideA p) = p := by
  ext
  simp [pairOf, sideA]

theorem pairOf_sideB (p : PairId) : pairOf (sideB p) = p := by
  ext
  simp [pairOf, sideB]
  omega

theorem side_of_pairOf (l : LineId) : l = sideA (pairOf l) ∨ l = sideB (pairOf l) := by
  simp only [Fin.ext_iff, sideA, sideB, pairOf]
  omega

theorem State.pairLive_iff (s : State) (p : PairId) :
    s.pairLive p = true ↔ s.lines[sideA p].mode = .live ∨ s.lines[sideB p].mode = .live := by
  simp [State.pairLive]

theorem State.pairLive_of_line (s : State) (l : LineId) (h : s.lines[l].mode = .live) : s.pairLive (pairOf l) = true := by
  rw [s.pairLive_iff]
  rcases side_of_pairOf l with hl | hl
  · exact .inl ((congrArg (fun k : LineId => s.lines[k].mode) hl.symm).trans h)
  · exact .inr ((congrArg (fun k : LineId => s.lines[k].mode) hl.symm).trans h)

/-! ## Every effect -/

/-- What the tables alone must hold for lines and tables to agree (R59, R68, R69). -/
def Tables.Sound (t : Tables) : Prop :=
  (∀ p : PairId, t.profile[p].enabled = true → t.profile[p].sequenceWidth = 4 ∨ t.profile[p].sequenceWidth = 8) ∧
  (∀ c c' : ChannelId, t.channel[c].enabled = true → t.channel[c'].enabled = true →
    t.channel[c].pair = t.channel[c'].pair → t.channel[c].key = t.channel[c'].key → c = c') ∧
  ∀ p : PairId, t.profile[p].countWidth ≤ 2

/-- Lines and tables agree when each line is sound, the tables are, and LIVE lines have enabled profiles (R71). -/
theorem State.linesSound_iff (s : State) : s.LinesSound ↔
    (∀ l : LineId, s.lines[l].Sound s.tables.line[l].silenceLimit) ∧ s.tables.Sound ∧
    ∀ l : LineId, s.lines[l].mode = .live → s.tables.profile[pairOf l].enabled = true := by
  constructor
  · rintro ⟨hbuffer, hlive, hwidth, hkeys, hrecv, hcount, hsilence⟩
    exact ⟨fun l => ⟨hbuffer l, hrecv l, hsilence l⟩, ⟨hwidth, hkeys, hcount⟩, hlive⟩
  · rintro ⟨hlines, ⟨hwidth, hkeys, hcount⟩, hlive⟩
    exact ⟨fun l => (hlines l).1, hlive, hwidth, hkeys, fun l => (hlines l).2.1, hcount, fun l => (hlines l).2.2⟩

theorem State.LinesSound.shifted {s t : State} (h : s.LinesSound) (hst : s.Shifted t) : t.LinesSound := by
  rw [hst.rest]
  exact h

theorem State.LinesSound.steered {s t : State} (h : s.LinesSound) (hst : s.Steered t) : t.LinesSound := by
  rw [hst.rest]
  exact h

/-- One line changed, to a sound one whose pair is enabled if it is LIVE. -/
theorem State.LinesSound.setLine {s : State} (h : s.LinesSound) (l : LineId) (f : FeedLine)
    (hsound : s.lines[l].Sound s.tables.line[l].silenceLimit → f.Sound s.tables.line[l].silenceLimit)
    (hlive : f.mode = .live → s.tables.profile[pairOf l].enabled = true) : (s.setLine l f).LinesSound := by
  rw [State.linesSound_iff] at h ⊢
  obtain ⟨hlines, htables, hlives⟩ := h
  exact ⟨forall_getElem_set (P := fun l (f : FeedLine) => f.Sound s.tables.line[l].silenceLimit) s.lines l f
      (hsound (hlines l)) hlines, htables,
    forall_getElem_set (P := fun l (f : FeedLine) => f.mode = .live → s.tables.profile[pairOf l].enabled = true) s.lines l f
      hlive hlives⟩

theorem State.LinesSound.live {s : State} (h : s.LinesSound) (l : LineId) (hl : s.lines[l].mode = .live) :
    s.tables.profile[pairOf l].enabled = true := h.2.1 l hl

/-- A key that no other enabled entry of the pair has keeps the keys distinct (R69). -/
theorem Tables.keys_distinct_set (s : State) (c : ChannelId) (e : ChannelEntry) (hdup : s.duplicateKey c e = false)
    (o : ChannelId) (ho : o ≠ c) (he : e.enabled = true) (hon : s.tables.channel[o].enabled = true)
    (hpair : s.tables.channel[o].pair = e.pair) : s.tables.channel[o].key ≠ e.key := by
  intro hkey
  have : s.duplicateKey c e = true := by
    rw [State.duplicateKey, he, Bool.true_and]
    refine List.any_eq_true.2 ⟨o, List.mem_finRange o, ?_⟩
    simp [-Fin.getElem_fin, ho, ChannelEntry.belongsTo, hon, hpair, hkey]
  rw [this] at hdup
  cases hdup

theorem State.Effect.linesSound {s t : State} (h : s.Effect t) (hs : s.LinesSound) : t.LinesSound := by
  have ⟨hlines, ⟨hwidth, hkeys, hcount⟩, hlive⟩ := s.linesSound_iff.1 hs
  cases h with
  | pulse r x _ _ => exact hs.steered (s.monitorEvent_steered ..)
  | miss r => exact hs.steered (s.monitorEvent_steered ..)
  | discipline d _ _ => exact hs.steered (s.applyDiscipline_steered d)
  | manage r _ _ _ => exact hs.steered (s.installManaged_steered r)
  | line l f hf => exact hs.setLine l f hf.sound fun h => hlive l (hf.mode ▸ h)
  | mode l m hm _ =>
    refine State.LinesSound.shifted (hs.setLine l _ (fun h => h.changeMode m s.tick) fun h => ?_)
      (s.changeMode_shifted l m)
    rw [FeedLine.changeMode_mode] at h
    exact hm h
  | take p l r rest _ hbuffer =>
    have htail := FeedLine.tail_kept s.lines[l] r rest s.tables.line[l].silenceLimit hbuffer
    have hremoved : (s.removeHead p l rest).LinesSound := hs.setLine l _ htail.sound (hlive l)
    exact hremoved.shifted (State.handleRecord_shifted ..)
  | gap p c _ _ _ _ => exact hs.shifted (s.expireGap_shifted p c)
  | clear p => exact hs.shifted (s.clearPair_shifted p)
  | lineEntry l e =>
    rw [State.linesSound_iff]
    refine ⟨fun l' => ?_, ⟨hwidth, hkeys, hcount⟩, ?_⟩
    · change (s.lines.set l (s.lines[l].newLimit e.silenceLimit s.tick))[l'].Sound (s.tables.line.set l e)[l'].silenceLimit
      by_cases hl : l = l'
      · subst hl
        rw [vector_getElem_set, vector_getElem_set]
        exact (hlines l).newLimit e.silenceLimit s.tick
      · rw [vector_getElem_set_ne _ _ _ _ hl, vector_getElem_set_ne _ _ _ _ hl]
        exact hlines l'
    · refine forall_getElem_set (P := fun l (f : FeedLine) => f.mode = .live → s.tables.profile[pairOf l].enabled = true)
        s.lines l _ (fun h => hlive l ?_) hlive
      obtain ⟨start, silent, heq⟩ := s.lines[l].newLimit_cases e.silenceLimit s.tick
      rw [heq] at h
      exact h
  | profileEntry p e hdead hew hec =>
    rw [State.linesSound_iff]
    refine ⟨hlines, ⟨forall_getElem_set (P := fun _ (e : ProfileEntry) => e.enabled = true →
        e.sequenceWidth = 4 ∨ e.sequenceWidth = 8) s.tables.profile p e (fun _ => hew) hwidth, hkeys,
      forall_getElem_set (P := fun _ (e : ProfileEntry) => e.countWidth ≤ 2) s.tables.profile p e hec hcount⟩, fun l hl => ?_⟩
    change (s.tables.profile.set p e)[pairOf l].enabled = true
    by_cases hp : p = pairOf l
    · rw [hp, s.pairLive_of_line l hl] at hdead
      cases hdead
    · rw [vector_getElem_set_ne _ _ _ _ hp]
      exact hlive l hl
  | channelEntry c e _ hdup =>
    rw [State.linesSound_iff]
    refine ⟨hlines, ⟨hwidth, fun a b => ?_, hcount⟩, hlive⟩
    have hnew := Tables.keys_distinct_set s c e hdup
    change (s.tables.channel.set c e)[a].enabled = true → (s.tables.channel.set c e)[b].enabled = true →
      (s.tables.channel.set c e)[a].pair = (s.tables.channel.set c e)[b].pair →
      (s.tables.channel.set c e)[a].key = (s.tables.channel.set c e)[b].key → a = b
    by_cases ha : c = a <;> by_cases hb : c = b
    · exact fun _ _ _ _ => ha.symm.trans hb
    · subst ha
      rw [vector_getElem_set, vector_getElem_set_ne _ _ _ _ hb]
      exact fun hea heb hpair hkey => absurd hkey.symm (hnew b (Ne.symm hb) hea heb hpair.symm)
    · subst hb
      rw [vector_getElem_set, vector_getElem_set_ne _ _ _ _ ha]
      exact fun hea heb hpair hkey => absurd hkey (hnew a (Ne.symm ha) heb hea hpair)
    · rw [vector_getElem_set_ne _ _ _ _ ha, vector_getElem_set_ne _ _ _ _ hb]
      exact hkeys a b
  | disable r e _ =>
    refine State.LinesSound.steered ?_ (State.disableReference_steered _ r)
    exact hs
  | _ => exact hs

theorem State.linesSound_keptByParts : State.KeptByParts State.LinesSound where
  effect _ _ h hs := h.linesSound hs
  unit _ _ hs := hs
  inbox _ _ _ hs := hs
  delivery _ _ _ _ hs := hs
  restart s _ := s.startRestart_holdsResetValues.linesSound
  reset s clock pins latch _ := (s.resetBlocks_holdsResetValues clock pins latch).linesSound
  pending _ _ hs := hs

/-- Settles O58: every part of a step keeps lines and tables in agreement. -/
theorem linesStaySound : Obligations.LinesStaySound := fun _ _ hs hst => State.linesSound_keptByParts.step hst hs

end Sys2Proof.Machine
end

section
/-! Nothing that is ready waits (R136, R147, R152, R160, R166): the settling of an event serves every idle line and leaves
no build allowed, and the taking of commands leaves no command to an IDLE unit. -/

namespace Sys2Proof.Machine

/-! ## The management unit during an event -/

/-- A reply that starts a RESTART waits in a reply queue (R160). -/
def State.RestartQueued (s : State) : Prop := ∃ d : DlineId, ∃ r ∈ s.deliveries[d].replies, r.startsRestart = true

/-- What holds of the unit even before an event has settled: an EXECUTING unit is at a request to execute (R152), and the
unit is in RESTART_PENDING exactly while a RESTART is queued (R147). -/
def State.UnitSound (s : State) : Prop :=
  (∀ c, s.unit = .executing c → c.current ≠ none) ∧ (s.unit = .restartPending ↔ s.RestartQueued)

/-- An IDLE unit has no command to take (R147). -/
def State.NoCommandWaits (s : State) : Prop := s.unit = .idle → s.inbox = []

/-- No idle transmitter has a group that holds a frame, and no build is allowed (R136, R166). -/
def State.Settled (s : State) : Prop :=
  (∀ (d : DlineId) (g : TransmitKind), s.deliveries[d].transmitter = .idle → s.groupHolds d g = false) ∧
  s.buildAllowed = false

theorem State.nothingReadyWaits_iff (s : State) :
    s.NothingReadyWaits ↔ s.Settled ∧ s.NoCommandWaits ∧ s.UnitSound :=
  ⟨fun ⟨hgroups, hbuild, hinbox, hcurrent, hrestart⟩ => ⟨⟨hgroups, hbuild⟩, hinbox, hcurrent, hrestart⟩,
    fun ⟨⟨hgroups, hbuild⟩, hinbox, hcurrent, hrestart⟩ => ⟨hgroups, hbuild, hinbox, hcurrent, hrestart⟩⟩

/-- The management unit, its inbox and the reply queues are as they were. -/
structure State.SameManagement (s t : State) : Prop where
  unit : t.unit = s.unit
  inbox : t.inbox = s.inbox
  replies : ∀ d : DlineId, t.deliveries[d].replies = s.deliveries[d].replies

theorem State.SameManagement.refl (s : State) : s.SameManagement s := ⟨rfl, rfl, fun _ => rfl⟩

theorem State.SameManagement.trans {s t u : State} (h : s.SameManagement t) (g : t.SameManagement u) :
    s.SameManagement u :=
  ⟨g.unit.trans h.unit, g.inbox.trans h.inbox, fun d => (g.replies d).trans (h.replies d)⟩

theorem State.SameManagement.restartQueued {s t : State} (h : s.SameManagement t) : t.RestartQueued ↔ s.RestartQueued := by
  simp only [State.RestartQueued, h.replies]

theorem State.SameManagement.unitSound {s t : State} (h : s.SameManagement t) (hs : s.UnitSound) : t.UnitSound := by
  rw [State.UnitSound, h.unit, h.restartQueued]
  exact hs

theorem State.SameManagement.noCommandWaits {s t : State} (h : s.SameManagement t) (hs : s.NoCommandWaits) :
    t.NoCommandWaits := by
  rw [State.NoCommandWaits, h.unit, h.inbox]
  exact hs

theorem State.Shifted.sameManagement {s t : State} (h : s.Shifted t) : s.SameManagement t :=
  ⟨h.unit, h.inbox, fun d => by rw [h.deliveries]⟩

theorem State.Steered.sameManagement {s t : State} (h : s.Steered t) : s.SameManagement t := by
  rw [h.rest]
  exact ⟨rfl, rfl, fun _ => rfl⟩

/-- A delivery line changed in anything but its reply queue. -/
theorem State.setDelivery_sameManagement (s : State) (d : DlineId) (x : DeliveryLine)
    (h : x.replies = s.deliveries[d].replies) : s.SameManagement (s.setDelivery d x) :=
  ⟨rfl, rfl, forall_getElem_set (P := fun d (x : DeliveryLine) => x.replies = s.deliveries[d].replies) s.deliveries d x h
    fun _ => rfl⟩

theorem State.Effect.sameManagement {s t : State} (h : s.Effect t) : s.SameManagement t := by
  cases h with
  | delivery d x hx => exact s.setDelivery_sameManagement d x hx
  | pulse r x _ _ => exact (s.monitorEvent_steered ..).sameManagement
  | miss r => exact (s.monitorEvent_steered ..).sameManagement
  | discipline d _ _ => exact (s.applyDiscipline_steered d).sameManagement
  | manage r _ _ _ => exact (s.installManaged_steered r).sameManagement
  | disable r e _ =>
    refine State.SameManagement.trans ?_ (State.disableReference_steered _ r).sameManagement
    exact ⟨rfl, rfl, fun _ => rfl⟩
  | mode l m _ _ =>
    exact State.SameManagement.trans (t := s.setLine l _) ⟨rfl, rfl, fun _ => rfl⟩ (s.changeMode_shifted l m).sameManagement
  | take p l r rest _ _ =>
    exact State.SameManagement.trans (t := s.removeHead p l rest) ⟨rfl, rfl, fun _ => rfl⟩
      (State.handleRecord_shifted ..).sameManagement
  | gap p c _ _ _ _ => exact (s.expireGap_shifted p c).sameManagement
  | clear p => exact (s.clearPair_shifted p).sameManagement
  | _ => exact ⟨rfl, rfl, fun _ => rfl⟩

theorem State.Effects.sameManagement {s t : State} (h : s.Effects t) : s.SameManagement t :=
  h.keeps (I := s.SameManagement) (fun _ _ hstep hs => hs.trans hstep.sameManagement) (.refl s)

/-! ## A build and a choice -/

theorem State.build_sameManagement (s : State) : s.SameManagement s.build := by
  rw [s.build_frame]
  exact ⟨rfl, rfl, fun _ => rfl⟩

theorem State.transmit_sameManagement (s : State) (d : DlineId) (kind : TransmitKind) (bytes : List Byte) :
    s.SameManagement (s.transmit d kind bytes) :=
  s.setDelivery_sameManagement d _ rfl

/-- A reply that starts no RESTART leaves those that do in their queues. -/
theorem State.dropReply_restartQueued (s : State) (d : DlineId) (r : Reply) (rest : List Reply)
    (h : s.deliveries[d].replies = r :: rest) (hr : r.startsRestart = false) :
    (s.setDelivery d { s.deliveries[d] with replies := rest }).RestartQueued ↔ s.RestartQueued := by
  refine exists_congr fun d' => ?_
  change (∃ r ∈ (s.deliveries.set d { s.deliveries[d] with replies := rest })[d'].replies, r.startsRestart = true) ↔ _
  by_cases hd : d = d'
  · subst hd
    rw [vector_getElem_set, h]
    simp [hr]
  · rw [vector_getElem_set_ne _ _ _ _ hd]

/-- A choice starts a RESTART, or leaves the unit, the inbox and whether a RESTART is queued. -/
theorem State.choose_management (s : State) (d : DlineId) : (∃ u : State, s.choose d = u.startRestart) ∨
    ((s.choose d).unit = s.unit ∧ (s.choose d).inbox = s.inbox ∧ ((s.choose d).RestartQueued ↔ s.RestartQueued)) := by
  rcases s.choose_cases d with ⟨-, e⟩ | ⟨-, ⟨p, x, rest, -, -, e⟩ | ⟨r, rest, hr, e⟩ | ⟨frame, -, -, e⟩⟩
  · rw [e]
    exact .inr ⟨rfl, rfl, .rfl⟩
  · have hpopped := State.setDelivery_sameManagement (s.setPair p { s.pairs[p] with queue := rest }) d
      { s.deliveries[d] with lastPairServed := p } rfl
    have hsame := hpopped.trans (State.transmit_sameManagement _ d .feed x.wire)
    rw [e]
    exact .inr ⟨hsame.unit, hsame.inbox, hsame.restartQueued⟩
  · dsimp only at e
    rw [e]
    split
    · exact .inl ⟨_, rfl⟩
    · have hsame := (s.setDelivery d { s.deliveries[d] with replies := rest }).transmit_sameManagement d .reply
        (builtWire r.frame)
      refine .inr ⟨hsame.unit, hsame.inbox, hsame.restartQueued.trans ?_⟩
      exact s.dropReply_restartQueued d r rest hr (by simpa using ‹¬r.startsRestart = true›)
  · have hsame := s.takeNotice.transmit_sameManagement d .notice (builtWire frame)
    rw [e]
    exact .inr ⟨hsame.unit, hsame.inbox, hsame.restartQueued⟩

theorem State.startRestart_nothingReadyWaits (s : State) : s.startRestart.NothingReadyWaits :=
  s.startRestart_holdsResetValues.nothingReadyWaits

theorem State.choose_unitSound (s : State) (d : DlineId) (hs : s.UnitSound) : (s.choose d).UnitSound := by
  rcases s.choose_management d with ⟨u, e⟩ | ⟨hunit, -, hqueued⟩
  · rw [e]
    exact (u.startRestart.nothingReadyWaits_iff.1 u.startRestart_nothingReadyWaits).2.2
  · rw [State.UnitSound, hunit, hqueued]
    exact hs

theorem State.choose_noCommandWaits (s : State) (d : DlineId) (hs : s.NoCommandWaits) : (s.choose d).NoCommandWaits := by
  rcases s.choose_management d with ⟨u, e⟩ | ⟨hunit, hinbox, -⟩
  · rw [e]
    exact (u.startRestart.nothingReadyWaits_iff.1 u.startRestart_nothingReadyWaits).2.1
  · rw [State.NoCommandWaits, hunit, hinbox]
    exact hs

/-! ## What a settled event leaves -/

/-- A line is served: it is busy or no group of it holds a frame. -/
def State.LineServed (s : State) (d : DlineId) : Prop :=
  s.deliveries[d].transmitter = .idle → ∀ g, s.groupHolds d g = false

/-- A group that holds a frame held one before, when queues, replies and slot have only lost frames. -/
theorem State.groupHolds_of_fewer {s t : State} {d : DlineId} {g : TransmitKind} (htables : t.tables = s.tables)
    (hqueues : ∀ p : PairId, t.pairs[p].queue ≠ [] → s.pairs[p].queue ≠ [])
    (hreplies : t.deliveries[d].replies = s.deliveries[d].replies) (hslot : t.notices.slot ≠ none → s.notices.slot ≠ none)
    (h : s.groupHolds d g = false) : t.groupHolds d g = false := by
  rw [← Bool.not_eq_true] at h ⊢
  refine mt (fun ht => ?_) h
  cases g with
  | feed =>
    rw [State.groupHolds_feed] at ht ⊢
    refine mt (fun hnone => ?_) ht
    rw [State.feedPair_eq_none] at hnone ⊢
    refine fun q => mt (fun hq => ?_) (hnone q)
    rw [State.feedReady_iff] at hq ⊢
    exact ⟨htables ▸ hq.1, hqueues q hq.2⟩
  | reply =>
    rw [State.groupHolds_reply] at ht ⊢
    rwa [← hreplies]
  | notice =>
    rw [State.groupHolds_notice] at ht ⊢
    exact ⟨htables ▸ ht.1, hslot ht.2⟩

/-- A queue whose head left held a frame before. -/
theorem State.popped_queue (s : State) (p : PairId) (e : DeliveryEntry) (rest : List DeliveryEntry)
    (hqueue : s.pairs[p].queue = e :: rest) (q : PairId)
    (hq : (s.setPair p { s.pairs[p] with queue := rest }).pairs[q].queue ≠ []) : s.pairs[q].queue ≠ [] := by
  by_cases h : p = q
  · subst h
    rw [hqueue]
    nofun
  · rwa [State.setPair_pairs, vector_getElem_set_ne _ _ _ _ h] at hq

theorem State.transmit_deliveries_ne (s : State) (d d' : DlineId) (kind : TransmitKind) (bytes : List Byte) (h : d ≠ d') :
    (s.transmit d kind bytes).deliveries[d'] = s.deliveries[d'] :=
  vector_getElem_set_ne _ _ _ _ h

theorem State.setDelivery_deliveries_ne (s : State) (d d' : DlineId) (x : DeliveryLine) (h : d ≠ d') :
    (s.setDelivery d x).deliveries[d'] = s.deliveries[d'] :=
  vector_getElem_set_ne _ _ _ _ h

/-- A choice serves its line. -/
theorem State.choose_lineServed (s : State) (d : DlineId) : (s.choose d).LineServed d := by
  rcases s.choose_cases d with ⟨hdone, e⟩ | ⟨-, ⟨p, x, rest, -, -, e⟩ | ⟨r, rest, -, e⟩ | ⟨frame, -, -, e⟩⟩
  · rw [e]
    exact fun hidle => hdone.resolve_left (not_not.2 hidle)
  · rw [e]
    exact fun hidle => absurd hidle (State.transmit_busy _ d _ _)
  · dsimp only at e
    rw [e]
    have hbusy := (s.setDelivery d { s.deliveries[d] with replies := rest }).transmit_busy d .reply (builtWire r.frame)
    split
    · intro hidle
      rw [State.startRestart_deliveries] at hidle
      exact absurd ((Transmitter.afterRestart_idle ..).1 hidle) hbusy
    · exact fun hidle => absurd hidle hbusy
  · rw [e]
    exact fun hidle => absurd hidle (State.transmit_busy _ d _ _)

/-- A choice on one line leaves the other one served: it only takes frames away. -/
theorem State.choose_keeps_lineServed (s : State) (d d' : DlineId) (hd : d ≠ d') (hs : s.LineServed d') :
    (s.choose d).LineServed d' := by
  rcases s.choose_cases d with ⟨-, e⟩ | ⟨-, ⟨p, x, rest, -, hqueue, e⟩ | ⟨r, rest, -, e⟩ | ⟨frame, -, -, e⟩⟩
  · rwa [e]
  · have hline : (s.choose d).deliveries[d'] = s.deliveries[d'] := by
      rw [e, State.transmit_deliveries_ne _ _ _ _ _ hd, State.setDelivery_deliveries_ne _ _ _ _ hd, State.setPair_deliveries]
    intro hidle g
    rw [hline] at hidle
    refine State.groupHolds_of_fewer (by rw [e]; rfl) (fun q hq => ?_) (by rw [hline]) (by rw [e]; exact id) (hs hidle g)
    rw [e] at hq
    exact s.popped_queue p x rest hqueue q hq
  · dsimp only at e
    split at e
    · rw [e]
      intro hidle g
      exact (State.nothingReadyWaits_iff _).1 (State.startRestart_nothingReadyWaits _) |>.1.1 d' g hidle
    · have hline : (s.choose d).deliveries[d'] = s.deliveries[d'] := by
        rw [e, State.transmit_deliveries_ne _ _ _ _ _ hd, State.setDelivery_deliveries_ne _ _ _ _ hd]
      intro hidle g
      rw [hline] at hidle
      exact State.groupHolds_of_fewer (by rw [e]; rfl) (by rw [e]; exact fun _ => id) (by rw [hline])
        (by rw [e]; exact id) (hs hidle g)
  · have hline : (s.choose d).deliveries[d'] = s.deliveries[d'] := by
      rw [e, State.transmit_deliveries_ne _ _ _ _ _ hd]
      rfl
    intro hidle g
    rw [hline] at hidle
    exact State.groupHolds_of_fewer (by rw [e]; rfl) (by rw [e]; exact fun _ => id) (by rw [hline])
      (by rw [e]; exact fun h => absurd rfl h) (hs hidle g)

/-- A build is allowed only while the notice line is busy: so after a build, and after the choices that follow it. -/
def State.BuildOnlyBusy (s : State) : Prop :=
  s.buildAllowed = true → s.deliveries[s.tables.notice.noticeLine].transmitter ≠ .idle

/-- A transmission makes a line busy and leaves the others. -/
theorem State.transmit_keeps_busy (s : State) (d d' : DlineId) (kind : TransmitKind) (bytes : List Byte)
    (h : s.deliveries[d'].transmitter ≠ .idle) : (s.transmit d kind bytes).deliveries[d'].transmitter ≠ .idle := by
  by_cases hd : d = d'
  · subst hd
    exact s.transmit_busy d kind bytes
  · rwa [s.transmit_deliveries_ne d d' kind bytes hd]

/-- Any change of a line that keeps its transmitter. -/
theorem State.setDelivery_keeps_busy (s : State) (d d' : DlineId) (x : DeliveryLine)
    (hx : x.transmitter = s.deliveries[d].transmitter) (h : s.deliveries[d'].transmitter ≠ .idle) :
    (s.setDelivery d x).deliveries[d'].transmitter ≠ .idle := by
  by_cases hd : d = d'
  · subst hd
    change (s.deliveries.set d x)[d].transmitter ≠ .idle
    rwa [vector_getElem_set, hx]
  · rwa [s.setDelivery_deliveries_ne d d' x hd]

theorem State.buildOnlyBusy_of_busier {s t : State} (htables : t.tables = s.tables) (hnotices : t.notices = s.notices)
    (hbusy : ∀ d : DlineId, s.deliveries[d].transmitter ≠ .idle → t.deliveries[d].transmitter ≠ .idle)
    (hs : s.BuildOnlyBusy) : t.BuildOnlyBusy := by
  simp only [State.BuildOnlyBusy, State.buildAllowed, State.readyLevels, htables, hnotices]
  exact fun h => hbusy _ (hs h)

theorem State.choose_buildOnlyBusy (s : State) (d : DlineId) (hs : s.BuildOnlyBusy) : (s.choose d).BuildOnlyBusy := by
  rcases s.choose_cases d with ⟨-, e⟩ | ⟨-, ⟨p, x, rest, -, -, e⟩ | ⟨r, rest, -, e⟩ | ⟨frame, -, hline, e⟩⟩
  · rwa [e]
  · rw [e]
    exact State.buildOnlyBusy_of_busier (s := s) rfl rfl (fun d' h => State.transmit_keeps_busy _ d d' _ _
      (State.setDelivery_keeps_busy (s.setPair p _) d d' _ rfl h)) hs
  · dsimp only at e
    split at e
    · rw [e]
      intro h
      rw [((State.nothingReadyWaits_iff _).1 (State.startRestart_nothingReadyWaits _)).1.2] at h
      cases h
    · rw [e]
      exact State.buildOnlyBusy_of_busier (s := s) rfl rfl (fun d' h => State.transmit_keeps_busy _ d d' _ _
        (State.setDelivery_keeps_busy s d d' _ rfl h)) hs
  · intro _
    rw [e]
    have hbusy := s.takeNotice.transmit_busy d .notice (builtWire frame)
    intro hidle
    refine hbusy (Eq.trans ?_ hidle)
    exact congrArg (fun k : DlineId => (s.takeNotice.transmit d .notice (builtWire frame)).deliveries[k].transmitter) hline.symm

theorem State.setNotices_groupHolds_feed (s : State) (d : DlineId) (n : NoticeUnit) :
    (s.setNotices n).groupHolds d .feed = s.groupHolds d .feed := rfl

theorem State.setNotices_groupHolds_reply (s : State) (d : DlineId) (n : NoticeUnit) :
    (s.setNotices n).groupHolds d .reply = s.groupHolds d .reply := rfl

/-- The build that a choice has made possible leaves the lines served: its notice line is busy. -/
theorem State.build_keeps_lineServed (s : State) (d : DlineId) (hbusy : s.BuildOnlyBusy) (hs : s.LineServed d) :
    s.build.LineServed d := by
  rcases s.build_cases with ⟨-, e⟩ | ⟨level, hallowed, -, e⟩ <;> rw [e]
  · exact hs
  · intro hidle g
    rw [State.buildLevel, State.setNotices_deliveries] at hidle
    cases g with
    | notice =>
      rw [← Bool.not_eq_true, State.groupHolds_notice, State.buildLevel, State.setNotices_tables]
      rintro ⟨hline, -⟩
      subst hline
      exact hbusy hallowed hidle
    | feed => exact (s.setNotices_groupHolds_feed d _).trans (hs hidle .feed)
    | reply => exact (s.setNotices_groupHolds_reply d _).trans (hs hidle .reply)

/-- What follows an event serves both lines and leaves no build allowed. -/
theorem State.settle_settled (s : State) : s.settle.Settled := by
  have hbuilt : s.build.BuildOnlyBusy := fun h => by
    rw [s.build_not_allowed] at h
    cases h
  have hbusy := (s.build.choose 0).choose_buildOnlyBusy 1 (s.build.choose_buildOnlyBusy 0 hbuilt)
  have hserved0 := (s.build.choose 0).choose_keeps_lineServed 1 0 (by decide) (s.build.choose_lineServed 0)
  have hserved1 := (s.build.choose 0).choose_lineServed 1
  refine ⟨fun d g hidle => ?_, State.build_not_allowed _⟩
  rcases ref_cases 0 d with rfl | rfl
  · exact State.build_keeps_lineServed _ 0 hbusy hserved0 hidle g
  · exact State.build_keeps_lineServed _ 1 hbusy hserved1 hidle g

theorem State.settle_unitSound (s : State) (hs : s.UnitSound) : s.settle.UnitSound :=
  (State.build_sameManagement _).unitSound
    (State.choose_unitSound _ 1 (State.choose_unitSound _ 0 (s.build_sameManagement.unitSound hs)))

theorem State.settle_noCommandWaits (s : State) (hs : s.NoCommandWaits) : s.settle.NoCommandWaits :=
  (State.build_sameManagement _).noCommandWaits
    (State.choose_noCommandWaits _ 1 (State.choose_noCommandWaits _ 0 (s.build_sameManagement.noCommandWaits hs)))

/-! ## The end of a command and the taking of the next -/

/-- A reply handed over while none starts a RESTART: one is queued exactly when this one does and fits. -/
theorem State.handReply_restartQueued (s : State) (d : DlineId) (r : Reply) (hs : ¬s.RestartQueued) :
    (s.handReply d r).RestartQueued ↔ s.deliveries[d].replies.length < 4 ∧ r.startsRestart = true := by
  have hnone (d' : DlineId) : ¬∃ r ∈ s.deliveries[d'].replies, r.startsRestart = true := fun h => hs ⟨d', h⟩
  rcases s.handReply_cases d r with ⟨hroom, e⟩ | ⟨hfull, e⟩ <;> rw [e]
  · rw [and_iff_right hroom]
    constructor
    · rintro ⟨d', x, hx, hstarts⟩
      by_cases hd : d = d'
      · subst hd
        change x ∈ (s.deliveries.set d { s.deliveries[d] with replies := s.deliveries[d].replies ++ [r] })[d].replies at hx
        rw [vector_getElem_set] at hx
        rcases List.mem_append.1 hx with hx | hx
        · exact absurd ⟨x, hx, hstarts⟩ (hnone d)
        · exact List.mem_singleton.1 hx ▸ hstarts
      · rw [s.setDelivery_deliveries_ne d d' _ hd] at hx
        exact absurd ⟨x, hx, hstarts⟩ (hnone d')
    · intro hstarts
      refine ⟨d, r, ?_, hstarts⟩
      change r ∈ (s.deliveries.set d { s.deliveries[d] with replies := s.deliveries[d].replies ++ [r] })[d].replies
      rw [vector_getElem_set]
      exact List.mem_append_right _ (List.mem_singleton_self r)
  · exact iff_of_false hs (fun h => absurd h.1 (Nat.not_lt.2 hfull))

theorem State.handReply_unit (s : State) (d : DlineId) (r : Reply) : (s.handReply d r).unit = s.unit := by
  rcases s.handReply_cases d r with ⟨-, e⟩ | ⟨-, e⟩ <;> rw [e] <;> rfl

theorem State.endCommand_unitSound (s : State) (c : CommandInFlight) (hs : ¬s.RestartQueued) :
    (s.endCommand c).UnitSound := by
  have hqueued (r : Reply) := (s.setUnit .idle).handReply_restartQueued c.dline r hs
  have hunit (r : Reply) := (s.setUnit .idle).handReply_unit c.dline r
  unfold State.endCommand
  dsimp only
  split_ifs with hrestart hfull
  · exact ((State.nothingReadyWaits_iff _).1 (State.startRestart_nothingReadyWaits _)).2.2
  · refine ⟨nofun, iff_of_true rfl ((hqueued _).2 ⟨?_, hrestart⟩)⟩
    exact Nat.not_le.1 fun h => hfull (decide_eq_true h)
  · refine ⟨fun c hc => ?_, ?_⟩
    · rw [hunit] at hc
      cases hc
    · rw [hunit, hqueued]
      exact iff_of_false nofun fun h => hrestart h.2

theorem State.carryOn_unitSound (s : State) (c : CommandInFlight) (hs : ¬s.RestartQueued)
    (hc : c.remaining = [] ∨ c.current ≠ none) : (s.carryOn c).UnitSound := by
  rcases s.carryOn_cases c with ⟨-, e⟩ | ⟨hmore, e⟩ <;> rw [e]
  · exact s.endCommand_unitSound c hs
  · refine ⟨fun c' h => ?_, iff_of_false nofun hs⟩
    obtain rfl := UnitState.executing.inj h
    exact hc.resolve_left hmore

/-- After the completion of its request a command has nothing left, or is at a request to execute (R152). -/
theorem CommandInFlight.complete_current (c : CommandInFlight) (st : Status) (data : List Byte) :
    (c.complete st data).remaining = [] ∨ (c.complete st data).current ≠ none := by
  unfold CommandInFlight.complete
  split
  · exact .inl ‹_›
  · dsimp only
    split
    · exact .inl rfl
    · exact CommandInFlight.advance_current _

theorem State.takeCommand_unitSound (s : State) (k : InboxCommand) (hs : s.UnitSound) (hidle : s.unit = .idle) :
    (s.takeCommand k).UnitSound := by
  have hqueued : ¬s.RestartQueued := fun h => by
    rw [← hs.2, hidle] at h
    cases h
  unfold State.takeCommand
  split
  · refine ⟨fun c hc => ?_, ?_⟩
    · rw [State.handReply_unit, hidle] at hc
      cases hc
    · rw [State.handReply_unit, s.handReply_restartQueued _ _ hqueued, hidle]
      exact iff_of_false nofun nofun
  · exact s.carryOn_unitSound _ hqueued (CommandInFlight.advance_current _)

theorem State.takeCommands_nothingReadyWaits (turns : Nat) : ∀ s : State, s.inbox.length ≤ turns → s.Settled →
    s.UnitSound → (s.takeCommands turns).NothingReadyWaits := by
  have stops (turns : Nat) (s : State) (hsettled : s.Settled) (hsound : s.UnitSound)
      (hstop : s.unit ≠ .idle ∨ s.inbox = []) : (s.takeCommands turns).NothingReadyWaits := by
    rw [s.takeCommands_stop turns hstop, s.nothingReadyWaits_iff]
    exact ⟨hsettled, fun h => hstop.resolve_left (not_not.2 h), hsound⟩
  induction turns with
  | zero => exact fun s hle hsettled hsound => stops 0 s hsettled hsound (.inr (List.length_eq_zero_iff.1 (by omega)))
  | succ turns ih =>
    intro s hle hsettled hsound
    by_cases hstop : s.unit ≠ .idle ∨ s.inbox = []
    · exact stops _ s hsettled hsound hstop
    · obtain ⟨hidle, hinbox⟩ := not_or.1 hstop
      obtain ⟨k, rest, hinbox⟩ := List.exists_cons_of_ne_nil hinbox
      rw [s.takeCommands_succ turns k rest (not_not.1 hidle) hinbox]
      refine ih _ ?_ (State.settle_settled _) (State.settle_unitSound _ ?_)
      · rw [hinbox, List.length_cons] at hle
        have htaken := (s.setInbox rest).takeCommand_inbox k
        rw [State.setInbox_inbox] at htaken
        have hafter := ((s.setInbox rest).takeCommand k).settle_inbox
        rcases hafter with h | h <;> rw [h]
        · rcases htaken with h | h <;> rw [h]
          · omega
          · exact Nat.zero_le _
        · exact Nat.zero_le _
      · exact State.takeCommand_unitSound (s.setInbox rest) k hsound (not_not.1 hidle)

/-- Whatever the inbox holds, what follows an event of the management unit leaves nothing ready waiting. -/
theorem State.settleUnit_nothingReadyWaits (s : State) (hs : s.UnitSound) : s.settleUnit.NothingReadyWaits :=
  State.takeCommands_nothingReadyWaits _ _ (Nat.le_refl _) s.settle_settled (s.settle_unitSound hs)

/-! ## Every step -/

theorem State.SameReady.nothingReadyWaits {s t : State} (h : s.SameReady t) (hs : s.NothingReadyWaits) :
    t.NothingReadyWaits := by
  have hmanagement : s.SameManagement t := ⟨h.unit, h.inbox, h.replies⟩
  obtain ⟨⟨hgroups, hbuild⟩, hinbox, hsound⟩ := s.nothingReadyWaits_iff.1 hs
  refine t.nothingReadyWaits_iff.2 ⟨⟨fun d g hidle => ?_, ?_⟩, hmanagement.noCommandWaits hinbox, hmanagement.unitSound hsound⟩
  · rw [h.transmitter] at hidle
    exact State.groupHolds_of_fewer h.tables (by rw [h.pairs]; exact fun _ => id) (h.replies d)
      (by rw [h.notices]; exact id) (hgroups d g hidle)
  · simpa only [State.buildAllowed, State.readyLevels, h.tables, h.notices] using hbuild

theorem State.Outcomes.nothingReadyWaits {s t : State} (h : s.Outcomes t) (hs : s.NothingReadyWaits) :
    t.NothingReadyWaits := by
  obtain ⟨-, hinbox, hsound⟩ := s.nothingReadyWaits_iff.1 hs
  cases h with
  | reset clock pins latch _ => exact (s.resetBlocks_holdsResetValues clock pins latch).nothingReadyWaits
  | aside _ hsame => exact hsame.nothingReadyWaits hs
  | @event u heffects =>
    exact u.settle.nothingReadyWaits_iff.2 ⟨u.settle_settled,
      u.settle_noCommandWaits (heffects.sameManagement.noCommandWaits hinbox),
      u.settle_unitSound (heffects.sameManagement.unitSound hsound)⟩
  | request c c' st data hu heffects =>
    refine State.settleUnit_nothingReadyWaits _ (State.carryOn_unitSound _ _ ?_ (c'.complete_current st data))
    rw [heffects.sameManagement.restartQueued, ← hsound.2, hu]
    nofun
  | @entry u c written clamped hu heffects =>
    refine State.settleUnit_nothingReadyWaits _ ⟨fun c' h => ?_, iff_of_false nofun ?_⟩
    · obtain rfl := UnitState.executing.inj h
      exact hsound.1 c hu
    · have hnone : ¬u.RestartQueued := by
        rw [heffects.sameManagement.restartQueued, ← hsound.2, hu]
        nofun
      exact hnone
  | command d x k hreplies _ =>
    exact State.settleUnit_nothingReadyWaits _ ((s.setDelivery_sameManagement d x hreplies).unitSound hsound)

/-- Settles O60: what a step does ends in a settled event, and starts from a sound unit. -/
theorem nothingReadyEverWaits : Obligations.NothingReadyEverWaits := by
  intro s t hs hst
  rcases step_outcomes hst with rfl | ⟨rest, hout⟩
  · exact hs
  · exact hout.nothingReadyWaits hs

end Sys2Proof.Machine
end

section
/-! The held frames of a channel (R75, R76, R99): their order seen from an advanced X, and the places they take in the
pool of their pair. -/

namespace Sys2Proof.Machine

/-! ## Offsets from an advanced X (R76) -/

/-- The offset is the only number of the signed range that is congruent to the difference. -/
theorem offset_unique {w q x : Nat} {v : Int} (hw : 0 < w) (hlow : -(2 ^ (w - 1) : Int) ≤ v) (hhigh : v < 2 ^ (w - 1))
    (hv : ∃ k : Int, v = (q : Int) - x + k * 2 ^ w) : offset w q x = v := by
  obtain ⟨k, hk⟩ := hv
  obtain ⟨m, hm⟩ := offset_congruent w q x
  obtain ⟨hlow', hhigh'⟩ := offset_range w q x hw
  have hpow : (2 : Int) ^ w = 2 * 2 ^ (w - 1) := by rw [← pow_succ', Nat.sub_add_cancel hw]
  have hdvd : (2 : Int) ^ w ∣ offset w q x - v := ⟨m - k, by rw [hm, hk]; ring⟩
  have hzero := Int.eq_zero_of_abs_lt_dvd hdvd (abs_lt.2 ⟨by omega, by omega⟩)
  omega

/-- X advanced to the end of a frame brings every other frame nearer by as much as X moves. -/
theorem offset_endOf {w q x s n : Nat} (hw : 0 < w) (hadv : 0 ≤ offset w s x + n)
    (hlow : -(2 ^ (w - 1) : Int) ≤ offset w q x - (offset w s x + n)) :
    offset w q (endOf w s n) = offset w q x - (offset w s x + n) := by
  refine offset_unique hw hlow ?_ ?_
  · have := (offset_range w q x hw).2
    omega
  · obtain ⟨k, hk⟩ := offset_congruent w q x
    obtain ⟨m, hm⟩ := offset_congruent w s x
    have hmod := Nat.div_add_mod (s + n) (2 ^ w)
    have hend : (endOf w s n : Int) = s + n - 2 ^ w * ((s + n) / 2 ^ w : Nat) := by
      rw [endOf]
      exact eq_sub_of_add_eq' (by exact_mod_cast hmod)
    exact ⟨k - m - ((s + n) / 2 ^ w : Nat), by rw [hend, hk, hm]; ring⟩

/-! ## The held frames of one channel -/

/-- The held frames of a channel, in their order in the pool. -/
def heldOf (pool : List ListedFrame) (c : ChannelId) : List ListedFrame := pool.filter (·.channel == c)

theorem mem_heldOf {pool : List ListedFrame} {c : ChannelId} {f : ListedFrame} :
    f ∈ heldOf pool c ↔ f ∈ pool ∧ f.channel = c := by
  simp [heldOf]

theorem heldOf_eq_nil {pool : List ListedFrame} {c : ChannelId} : heldOf pool c = [] ↔ ∀ f ∈ pool, f.channel ≠ c := by
  simp [heldOf]

theorem heldOf_append (a b : List ListedFrame) (c : ChannelId) : heldOf (a ++ b) c = heldOf a c ++ heldOf b c :=
  List.filter_append a b

theorem heldOf_cons_same (f : ListedFrame) (pool : List ListedFrame) :
    heldOf (f :: pool) f.channel = f :: heldOf pool f.channel :=
  List.filter_cons_of_pos (beq_self_eq_true _)

theorem heldOf_cons_other (f : ListedFrame) (pool : List ListedFrame) {c : ChannelId} (h : f.channel ≠ c) :
    heldOf (f :: pool) c = heldOf pool c :=
  List.filter_cons_of_neg (by simpa using h)

/-- The lowest held frame of a channel is the first of its held frames (R99). -/
theorem lowestHeld_eq_head? (pool : List ListedFrame) (c : ChannelId) : lowestHeld pool c = (heldOf pool c).head? :=
  List.head?_filter.symm

theorem lowestHeld_eq_none {pool : List ListedFrame} {c : ChannelId} : lowestHeld pool c = none ↔ heldOf pool c = [] := by
  rw [lowestHeld_eq_head?, List.head?_eq_none_iff]

theorem removeLowest_cons_same (f : ListedFrame) (pool : List ListedFrame) : removeLowest (f :: pool) f.channel = pool :=
  List.eraseP_cons_of_pos (by simp)

theorem removeLowest_cons_other (f : ListedFrame) (pool : List ListedFrame) {c : ChannelId} (h : f.channel ≠ c) :
    removeLowest (f :: pool) c = f :: removeLowest pool c :=
  List.eraseP_cons_of_neg (by simpa using h)

/-- Removing the lowest held frame of a channel leaves the rest of its frames. -/
theorem heldOf_removeLowest (pool : List ListedFrame) (c : ChannelId) :
    heldOf (removeLowest pool c) c = (heldOf pool c).tail := by
  induction pool with
  | nil => rfl
  | cons g rest ih =>
    by_cases hg : g.channel = c
    · subst hg
      rw [heldOf_cons_same, List.tail_cons, removeLowest_cons_same]
    · rw [heldOf_cons_other g rest hg, removeLowest_cons_other g rest hg, heldOf_cons_other _ _ hg, ih]

/-- Removing the lowest held frame of a channel leaves the frames of another one. -/
theorem heldOf_removeLowest_other (pool : List ListedFrame) {c d : ChannelId} (h : c ≠ d) :
    heldOf (removeLowest pool c) d = heldOf pool d := by
  induction pool with
  | nil => rfl
  | cons g rest ih =>
    by_cases hg : g.channel = c
    · subst hg
      rw [heldOf_cons_other g rest h, removeLowest_cons_same]
    · rw [removeLowest_cons_other g rest hg]
      by_cases hd : g.channel = d
      · subst hd
        rw [heldOf_cons_same, heldOf_cons_same, ih]
      · rw [heldOf_cons_other _ _ hd, heldOf_cons_other _ _ hd, ih]

/-- A frame placed in the pool leaves the frames of another channel. -/
theorem heldOf_insertHeld_other (w x : Nat) (f : ListedFrame) (pool : List ListedFrame) {c : ChannelId}
    (h : f.channel ≠ c) : heldOf (insertHeld w x f pool) c = heldOf pool c := by
  obtain ⟨before, after, hpool, hinsert, -, -⟩ := insertHeld_place w x f pool
  rw [hinsert, hpool, heldOf_append, heldOf_append, heldOf_cons_other _ _ h]

/-! ## Their order (R99) -/

/-- Each frame ends before the next one of its channel starts. -/
def HeldOrdered (w x : Nat) (held : List ListedFrame) : Prop :=
  held.Pairwise fun f g => offset w f.s x + f.n ≤ offset w g.s x

/-- The order is kept when X advances to the end of a frame, as long as no offset leaves the signed range. -/
theorem HeldOrdered.advance {w x s n : Nat} {held : List ListedFrame} (h : HeldOrdered w x held) (hw : 0 < w)
    (hadv : 0 ≤ offset w s x + n) (hlow : ∀ g ∈ held, -(2 ^ (w - 1) : Int) ≤ offset w g.s x - (offset w s x + n)) :
    HeldOrdered w (endOf w s n) held := by
  refine List.Pairwise.imp_of_mem (fun {f g} hf hg hfg => ?_) h
  rw [offset_endOf hw hadv (hlow f hf), offset_endOf hw hadv (hlow g hg)]
  omega

/-- The order of the frames behind the first when X advances to the end of the first. -/
theorem HeldOrdered.advance_head {w x : Nat} {f : ListedFrame} {rest : List ListedFrame} (hw : 0 < w)
    (h : HeldOrdered w x (f :: rest)) (hadv : 0 ≤ offset w f.s x + f.n) : HeldOrdered w (endOf w f.s f.n) rest := by
  obtain ⟨hfirst, hrest⟩ := List.pairwise_cons.1 h
  refine HeldOrdered.advance hrest hw hadv fun g hg => ?_
  have := hfirst g hg
  have : (0 : Int) < 2 ^ (w - 1) := by positivity
  omega

/-- A frame that overlaps none of its channel is placed in order (R85, R100). -/
theorem HeldOrdered.insertHeld {w x : Nat} {f : ListedFrame} {pool : List ListedFrame}
    (h : HeldOrdered w x (heldOf pool f.channel)) (hn : f.n ≠ 0)
    (hclear : ∀ g ∈ heldOf pool f.channel, ¬(offset w g.s x < offset w f.s x + f.n ∧ offset w f.s x < offset w g.s x + g.n)) :
    HeldOrdered w x (heldOf (insertHeld w x f pool) f.channel) := by
  obtain ⟨before, after, hpool, hinsert, hbefore, hafter⟩ := insertHeld_place w x f pool
  rw [hpool, heldOf_append] at h hclear
  obtain ⟨hb, ha, hba⟩ := List.pairwise_append.1 h
  have hlater : ∀ g ∈ heldOf after f.channel, offset w f.s x < offset w g.s x := by
    cases after with
    | nil => nofun
    | cons a rest =>
      obtain ⟨hchannel, hlt⟩ := hafter a rfl
      intro g hg
      rw [← hchannel, heldOf_cons_same] at ha hg
      rcases List.mem_cons.1 hg with rfl | hg
      · exact hlt
      · have := (List.pairwise_cons.1 ha).1 g hg
        omega
  rw [hinsert, heldOf_append, heldOf_cons_same]
  refine List.pairwise_append.2 ⟨hb, List.pairwise_cons.2 ⟨fun g hg => ?_, ha⟩, fun e he g hg => ?_⟩
  · have hover := hclear g (List.mem_append_right _ hg)
    have hlt := hlater g hg
    omega
  · rcases List.mem_cons.1 hg with rfl | hg
    · have hover := hclear e (List.mem_append_left _ he)
      obtain ⟨hmem, hchannel⟩ := mem_heldOf.1 he
      have hle := hbefore e hmem hchannel
      omega
    · exact hba e he g hg

/-! ## The agreement of a channel with its held frames (R75, R85, R99) -/

/-- What holds of a channel and its held frames while its release loop runs: the frames are data frames in order, held
with a gap wait, and the gap is open. -/
structure HoldsOpen (w gapWait : Nat) (q : SequenceState) (held : List ListedFrame) : Prop where
  waits : held ≠ [] → gapWait ≠ 0
  data : ∀ f ∈ held, f.n ≠ 0
  ordered : HeldOrdered w (q.expected.getD 0) held
  gapOpen : held ≠ [] → ∃ x e, q = .gapOpen x e

/-- What holds at rest: the frames also start beyond X, and the gap is open only while one is held. -/
structure HoldsAgree (w gapWait : Nat) (q : SequenceState) (held : List ListedFrame) : Prop
    extends HoldsOpen w gapWait q held where
  ahead : ∀ f ∈ held, 0 < offset w f.s (q.expected.getD 0)
  closed : held = [] → ∀ x e, q ≠ .gapOpen x e

theorem HoldsAgree.of_empty {w gapWait : Nat} {q : SequenceState} (h : ∀ x e, q ≠ .gapOpen x e) :
    HoldsAgree w gapWait q [] where
  waits := nofun
  data := nofun
  ordered := .nil
  gapOpen := nofun
  ahead := nofun
  closed _ := h

theorem SequenceState.withExpected_gapOpen (q : SequenceState) (y : Nat) :
    (∃ x e, q.withExpected y = .gapOpen x e) ↔ ∃ x e, q = .gapOpen x e := by
  cases q <;> simp [SequenceState.withExpected]

theorem SequenceState.withExpected_expected (q : SequenceState) (y : Nat) : (q.withExpected y).expected.getD 0 = y := by
  cases q <;> rfl

theorem SequenceState.close_not_gapOpen (q : SequenceState) (x e : Nat) : q.close ≠ .gapOpen x e := by
  cases q <;> nofun

/-- A superseded frame leaves (R92). -/
theorem HoldsOpen.tail {w gapWait : Nat} {q : SequenceState} {f : ListedFrame} {rest : List ListedFrame}
    (h : HoldsOpen w gapWait q (f :: rest)) : HoldsOpen w gapWait q rest where
  waits _ := h.waits nofun
  data g hg := h.data g (List.mem_cons_of_mem _ hg)
  ordered := (List.pairwise_cons.1 h.ordered).2
  gapOpen _ := h.gapOpen nofun

/-- The lowest held frame is delivered and X advances to its end (R92, R103). -/
theorem HoldsOpen.deliver_head {w gapWait : Nat} {q : SequenceState} {f : ListedFrame} {rest : List ListedFrame}
    (h : HoldsOpen w gapWait q (f :: rest)) (hw : 0 < w) (hadv : 0 ≤ offset w f.s (q.expected.getD 0) + f.n) :
    HoldsOpen w gapWait (q.withExpected (endOf w f.s f.n)) rest where
  waits _ := h.waits nofun
  data g hg := h.data g (List.mem_cons_of_mem _ hg)
  ordered := by
    rw [SequenceState.withExpected_expected]
    exact h.ordered.advance_head hw hadv
  gapOpen _ := (q.withExpected_gapOpen _).2 (h.gapOpen nofun)

/-- X advances to the end of a frame in step: the held frames are less than half the width nearer (R82). -/
theorem HoldsAgree.advance {w gapWait : Nat} {q : SequenceState} {held : List ListedFrame} {s n : Nat}
    (h : HoldsAgree w gapWait q held) (hw : 17 ≤ w) (hn : n ≤ 65535) (hstart : offset w s (q.expected.getD 0) ≤ 0)
    (hadv : 0 ≤ offset w s (q.expected.getD 0) + n) : HoldsOpen w gapWait (q.withExpected (endOf w s n)) held where
  waits := h.waits
  data := h.data
  ordered := by
    rw [SequenceState.withExpected_expected]
    refine h.ordered.advance (by omega) hadv fun g hg => ?_
    have hahead := h.ahead g hg
    have hpow : (2 : Int) ^ 16 ≤ 2 ^ (w - 1) := pow_le_pow_right₀ (by decide) (by omega)
    omega
  gapOpen hne := (q.withExpected_gapOpen _).2 (h.gapOpen hne)

/-- The loop rests at a first frame beyond X: all the others start beyond it too (R92). -/
theorem HoldsOpen.rest {w gapWait : Nat} {q : SequenceState} {f : ListedFrame} {rest : List ListedFrame}
    (h : HoldsOpen w gapWait q (f :: rest)) (hahead : 0 < offset w f.s (q.expected.getD 0)) :
    HoldsAgree w gapWait q (f :: rest) where
  toHoldsOpen := h
  ahead g hg := by
    rcases List.mem_cons.1 hg with rfl | hg
    · exact hahead
    · have := (List.pairwise_cons.1 h.ordered).1 g hg
      omega
  closed := nofun

/-! ## A change of one channel's holds -/

/-- Pools, sequences and the tables that say where frames may be held are as they were. -/
structure State.SameHolds (s t : State) : Prop where
  channel : t.tables.channel = s.tables.channel
  profile : t.tables.profile = s.tables.profile
  pool : ∀ p : PairId, t.pairs[p].pool = s.pairs[p].pool
  sequence : ∀ c : ChannelId, t.channels[c].sequence = s.channels[c].sequence

namespace State.SameHolds

theorem refl (s : State) : s.SameHolds s := ⟨rfl, rfl, fun _ => rfl, fun _ => rfl⟩

theorem trans {s t u : State} (h : s.SameHolds t) (g : t.SameHolds u) : s.SameHolds u :=
  ⟨g.channel.trans h.channel, g.profile.trans h.profile, fun p => (g.pool p).trans (h.pool p),
    fun c => (g.sequence c).trans (h.sequence c)⟩

theorem width {s t : State} (h : s.SameHolds t) : t.width = s.width := by
  funext p
  rw [State.width, h.profile]
  rfl

end State.SameHolds

theorem State.setPair_sameHolds (s : State) (p : PairId) (a : PairArbiter) (h : a.pool = s.pairs[p].pool) :
    s.SameHolds (s.setPair p a) where
  channel := rfl
  profile := rfl
  pool := forall_getElem_set (P := fun p (a : PairArbiter) => a.pool = s.pairs[p].pool) s.pairs p a h fun _ => rfl
  sequence _ := rfl

theorem State.setChannel_sameHolds (s : State) (c : ChannelId) (x : Channel) (h : x.sequence = s.channels[c].sequence) :
    s.SameHolds (s.setChannel c x) where
  channel := rfl
  profile := rfl
  pool _ := rfl
  sequence := forall_getElem_set (P := fun c (x : Channel) => x.sequence = s.channels[c].sequence) s.channels c x h fun _ => rfl

theorem State.raise_sameHolds (s : State) (id : Fin 52) : s.SameHolds (s.raise id) := ⟨rfl, rfl, fun _ => rfl, fun _ => rfl⟩

theorem State.deliver_sameHolds (s : State) (p : PairId) (e : DeliveryEntry) : s.SameHolds (s.deliver p e) := by
  unfold State.deliver
  split
  · exact s.setPair_sameHolds p _ rfl
  · exact (s.setPair_sameHolds p s.pairs[p].drop rfl).trans (State.raise_sameHolds _ _)

theorem State.setCounters_sameHolds (s : State) (p : PairId) (k : PairCounters) : s.SameHolds (s.setCounters p k) :=
  s.setPair_sameHolds p _ rfl

theorem State.accountGap_sameHolds (s : State) (p : PairId) (c : ChannelId) (gap : Nat) :
    s.SameHolds (s.accountGap p c gap) := by
  refine State.SameHolds.trans (State.SameHolds.trans ?_ (State.setCounters_sameHolds _ p _)) (State.raise_sameHolds _ _)
  exact s.setChannel_sameHolds c _ rfl

theorem State.insertTwin_sameHolds (s : State) (p : PairId) (f : ListedFrame) (kind : FrameKind) :
    s.SameHolds (s.insertTwin p f kind) :=
  s.setPair_sameHolds p _ rfl

/-- The lookup leaves the pool, whatever it finds. -/
theorem PairArbiter.twinLookup_pool {a b : PairArbiter} {p : PairId} {c : ChannelId} {q : Nat} {kind : FrameKind}
    {r : FrameRecord} (h : a.twinLookup p c q kind r = some b) : b.pool = a.pool := by
  rcases a.twinLookup_cases p c q kind r with ⟨-, e⟩ | ⟨x, -, -, e⟩ <;> rw [e] at h
  · cases h
  · obtain rfl := Option.some.inj h
    split <;> rfl

/-- Pools, sequences and tables are as they were, but for one channel of one pair: its held frames and its sequence
state are those given. -/
structure State.HoldsBecome (p : PairId) (c : ChannelId) (held : List ListedFrame) (q : SequenceState) (s t : State) :
    Prop where
  channel : t.tables.channel = s.tables.channel
  profile : t.tables.profile = s.tables.profile
  held : heldOf t.pairs[p].pool c = held
  sequence : t.channels[c].sequence = q
  otherPools : ∀ p' : PairId, p' ≠ p → t.pairs[p'].pool = s.pairs[p'].pool
  otherHeld : ∀ c' : ChannelId, c' ≠ c → heldOf t.pairs[p].pool c' = heldOf s.pairs[p].pool c'
  otherSequence : ∀ c' : ChannelId, c' ≠ c → t.channels[c'].sequence = s.channels[c'].sequence

namespace State.HoldsBecome

variable {p : PairId} {c : ChannelId} {held : List ListedFrame} {q : SequenceState} {s t u : State}

theorem refl (p : PairId) (c : ChannelId) (s : State) :
    State.HoldsBecome p c (heldOf s.pairs[p].pool c) s.channels[c].sequence s s :=
  ⟨rfl, rfl, rfl, rfl, fun _ _ => rfl, fun _ _ => rfl, fun _ _ => rfl⟩

theorem width (h : State.HoldsBecome p c held q s t) : t.width = s.width := by
  funext p'
  rw [State.width, h.profile]
  rfl

theorem expectedOf (h : State.HoldsBecome p c held q s t) : t.expectedOf c = q.expected.getD 0 := by
  rw [State.expectedOf, h.sequence]

theorem same (h : State.HoldsBecome p c held q s t) (hsame : t.SameHolds u) : State.HoldsBecome p c held q s u where
  channel := hsame.channel.trans h.channel
  profile := hsame.profile.trans h.profile
  held := by rw [hsame.pool, h.held]
  sequence := by rw [hsame.sequence, h.sequence]
  otherPools p' hp := by rw [hsame.pool, h.otherPools p' hp]
  otherHeld c' hc := by rw [hsame.pool, h.otherHeld c' hc]
  otherSequence c' hc := by rw [hsame.sequence, h.otherSequence c' hc]

/-- The channel itself is changed, to another sequence state. -/
theorem setChannel (h : State.HoldsBecome p c held q s t) (x : Channel) :
    State.HoldsBecome p c held x.sequence s (t.setChannel c x) where
  channel := h.channel
  profile := h.profile
  held := h.held
  sequence := congrArg Channel.sequence (vector_getElem_set _ _ _)
  otherPools := h.otherPools
  otherHeld := h.otherHeld
  otherSequence c' hc := by
    rw [← h.otherSequence c' hc]
    exact congrArg Channel.sequence (vector_getElem_set_ne _ _ _ _ (Ne.symm hc))

theorem setSequence (h : State.HoldsBecome p c held q s t) (q' : SequenceState) :
    State.HoldsBecome p c held q' s (t.setSequence c q') :=
  h.setChannel { t.channels[c] with sequence := q' }

theorem setExpected (h : State.HoldsBecome p c held q s t) (x : Nat) :
    State.HoldsBecome p c held (q.withExpected x) s (t.setExpected c x) := by
  rw [← h.sequence]
  exact h.setSequence _

theorem startGapTimer (h : State.HoldsBecome p c held q s t) : State.HoldsBecome p c held
    (.gapOpen (q.expected.getD 0) (t.tick + t.tables.channel[c].gapWait * Config.ticksPerUs)) s (t.startGapTimer c) := by
  rw [← h.expectedOf]
  exact h.setChannel { t.channels[c] with
    gapOpenTick := t.tick
    sequence := .gapOpen (t.expectedOf c) (t.tick + t.tables.channel[c].gapWait * Config.ticksPerUs) }

/-- The pool is changed in the frames of the channel only. -/
theorem setPool (h : State.HoldsBecome p c held q s t) (a : PairArbiter)
    (hother : ∀ c' : ChannelId, c' ≠ c → heldOf a.pool c' = heldOf t.pairs[p].pool c') :
    State.HoldsBecome p c (heldOf a.pool c) q s (t.setPair p a) where
  channel := h.channel
  profile := h.profile
  held := congrArg (fun a : PairArbiter => heldOf a.pool c) (vector_getElem_set _ _ _)
  sequence := h.sequence
  otherPools p' hp := by
    rw [← h.otherPools p' hp]
    exact congrArg PairArbiter.pool (vector_getElem_set_ne _ _ _ _ (Ne.symm hp))
  otherHeld c' hc := by
    rw [← h.otherHeld c' hc, ← hother c' hc]
    exact congrArg (fun a : PairArbiter => heldOf a.pool c') (vector_getElem_set _ _ _)
  otherSequence := h.otherSequence

/-- The lowest held frame leaves the pool. -/
theorem dropLowest (h : State.HoldsBecome p c held q s t) (a : PairArbiter)
    (ha : a.pool = removeLowest t.pairs[p].pool c) : State.HoldsBecome p c held.tail q s (t.setPair p a) := by
  have htail : heldOf a.pool c = held.tail := by rw [ha, heldOf_removeLowest, h.held]
  rw [← htail]
  exact h.setPool a fun c' hc => by rw [ha, heldOf_removeLowest_other _ (Ne.symm hc)]

end State.HoldsBecome

/-! ## The release loop and the expiries -/

/-- A channel's holds end in agreement (R75, R85, R99). -/
def State.HoldsSettle (p : PairId) (c : ChannelId) (s t : State) : Prop :=
  ∃ held q, State.HoldsBecome p c held q s t ∧ HoldsAgree (s.width p) s.tables.channel[c].gapWait q held

theorem State.HoldsBecome.releaseLoop {p : PairId} {c : ChannelId} {s : State} (hw : 0 < s.width p) (turns : Nat) :
    ∀ (t : State) (held : List ListedFrame) (q : SequenceState), State.HoldsBecome p c held q s t →
      t.pairs[p].pool.length < turns → HoldsOpen (s.width p) s.tables.channel[c].gapWait q held →
      State.HoldsSettle p c s (t.releaseLoop turns p c) := by
  induction turns with
  | zero => exact fun t held q h hlt _ => absurd hlt (Nat.not_lt_zero _)
  | succ turns ih =>
    intro t held q h hlt hopen
    have hmore (f : ListedFrame) (hf : lowestHeld t.pairs[p].pool c = some f) : held = f :: held.tail := by
      rw [lowestHeld_eq_head?, h.held] at hf
      exact List.eq_cons_of_mem_head? hf
    have hstart (f : ListedFrame) :
        offset (t.width p) f.s (t.expectedOf c) = offset (s.width p) f.s (q.expected.getD 0) := by
      rw [h.width, h.expectedOf]
    rcases t.releaseLoop_succ turns p c with ⟨hnone, e⟩ | ⟨f, hf, ⟨-, e⟩ | ⟨hend, hreached, e⟩ | ⟨hahead, e⟩⟩ <;> rw [e]
    · rw [lowestHeld_eq_none, h.held] at hnone
      subst hnone
      exact ⟨[], _, h.setSequence _, .of_empty fun x e => SequenceState.close_not_gapOpen _ x e⟩
    · rw [hmore f hf] at hopen
      refine ih _ _ _ (h.dropLowest _ rfl) ?_ hopen.tail
      have hremoved := removeLowest_length hf
      have hpool : (t.supersede p c).pairs[p].pool = removeLowest t.pairs[p].pool c :=
        congrArg PairArbiter.pool (vector_getElem_set _ _ _)
      rw [hpool]
      omega
    · have hremoved := removeLowest_length hf
      have hpool := t.releaseFrame_pool p f (offset (t.width p) f.s (t.expectedOf c))
      obtain ⟨-, rfl⟩ := lowestHeld_some hf
      rw [hstart] at hend
      rw [hmore f hf] at hopen
      refine ih _ _ _ (((h.dropLowest _ rfl).same (State.deliver_sameHolds _ _ _)).setExpected _) ?_ ?_
      · exact lt_of_eq_of_lt (congrArg List.length hpool) (by omega)
      · rw [h.width]
        exact hopen.deliver_head hw hend.le
    · rw [hstart] at hahead
      rw [hmore f hf] at h hopen
      exact ⟨_, _, h, hopen.rest hahead⟩

theorem State.HoldsBecome.release {p : PairId} {c : ChannelId} {held : List ListedFrame} {q : SequenceState} {s t : State}
    (h : State.HoldsBecome p c held q s t) (hw : 0 < s.width p)
    (hopen : HoldsOpen (s.width p) s.tables.channel[c].gapWait q held) : State.HoldsSettle p c s (t.release p c) :=
  State.HoldsBecome.releaseLoop hw _ t held q h (Nat.lt_succ_self _) hopen

end Sys2Proof.Machine
end

section
/-! Holds and channel states (R75, R85, R99, R113): each operation of a pair arbiter keeps them in agreement, and so
does every step. -/

namespace Sys2Proof.Machine

/-! ## The invariant by channels -/

/-- Every channel of a pair agrees with its held frames; no pair holds a frame of a channel that is not its own; and a
channel of no pair is UNSEEN. -/
structure State.ChannelsAgree (s : State) : Prop where
  agree : ∀ (p : PairId) (c : ChannelId), s.tables.channel[c].belongsTo p = true →
    HoldsAgree (s.width p) s.tables.channel[c].gapWait s.channels[c].sequence (heldOf s.pairs[p].pool c)
  foreign : ∀ (p : PairId) (c : ChannelId), s.tables.channel[c].belongsTo p = false → heldOf s.pairs[p].pool c = []
  disabled : ∀ c : ChannelId, s.tables.channel[c].enabled = false → s.channels[c].sequence = .unseen

/-- A pair with no LIVE line holds nothing (R113). -/
def State.OnlyLiveHolds (s : State) : Prop := ∀ p : PairId, s.pairLive p = false → s.pairs[p].pool = []

/-- Order within each channel is order between all frames of one channel in the pool. -/
theorem heldOrdered_iff {r : ListedFrame → ListedFrame → Prop} (pool : List ListedFrame) :
    pool.Pairwise (fun f g => f.channel = g.channel → r f g) ↔ ∀ c : ChannelId, (heldOf pool c).Pairwise r := by
  simp only [heldOf, List.pairwise_filter]
  constructor
  · exact fun h c => h.imp fun hfg hf hg => hfg ((beq_iff_eq.1 hf).trans (beq_iff_eq.1 hg).symm)
  · intro h
    induction pool with
    | nil => exact .nil
    | cons f rest ih =>
      exact .cons (fun g hg hfg => (List.pairwise_cons.1 (h f.channel)).1 g hg (beq_self_eq_true _) (by simp [hfg]))
        (ih fun c => (List.pairwise_cons.1 (h c)).2)

theorem State.holdsSound_iff (s : State) : s.HoldsSound ↔ s.OnlyLiveHolds ∧ s.ChannelsAgree := by
  constructor
  · rintro ⟨hlive, hframes, hordered, hopen, hdisabled⟩
    refine ⟨hlive, fun p c hc => ?_, fun p c hc => ?_, hdisabled⟩
    · have hsome : heldOf s.pairs[p].pool c ≠ [] ↔ ∃ f ∈ s.pairs[p].pool, f.channel = c := by
        rw [Ne, heldOf_eq_nil]
        push Not
        rfl
      have hgap := (hopen p c hc).trans hsome.symm
      have hframe : ∀ f ∈ heldOf s.pairs[p].pool c, f.n ≠ 0 ∧ s.tables.channel[c].gapWait ≠ 0 ∧
          0 < offset (s.width p) f.s (s.expectedOf c) := by
        intro f hf
        obtain ⟨hmem, rfl⟩ := mem_heldOf.1 hf
        exact (hframes p f hmem).2
      refine ⟨⟨fun hne => ?_, fun f hf => (hframe f hf).1, ?_, hgap.2⟩, fun f hf => (hframe f hf).2.2, fun hnil x e hq => ?_⟩
      · obtain ⟨f, hf⟩ := List.exists_mem_of_ne_nil _ hne
        exact (hframe f hf).2.1
      · have hpairs := (List.pairwise_filter (p := (·.channel == c))).2 ((hordered p).imp fun hfg hf hg =>
          hfg ((beq_iff_eq.1 hf).trans (beq_iff_eq.1 hg).symm))
        refine List.Pairwise.imp_of_mem (fun {f g} hf hg hfg => ?_) hpairs
        rwa [(mem_heldOf.1 hf).2, (mem_heldOf.1 hg).2] at hfg
      · exact hgap.1 ⟨x, e, hq⟩ hnil
    · rw [heldOf_eq_nil]
      rintro f hf rfl
      rw [(hframes p f hf).1] at hc
      cases hc
  · rintro ⟨hlive, hagree, hforeign, hdisabled⟩
    have howned (p : PairId) (f : ListedFrame) (hf : f ∈ s.pairs[p].pool) :
        s.tables.channel[f.channel].belongsTo p = true := by
      by_contra hc
      exact heldOf_eq_nil.1 (hforeign p f.channel (by simpa using hc)) f hf rfl
    have hheld (p : PairId) (f : ListedFrame) (hf : f ∈ s.pairs[p].pool) : f ∈ heldOf s.pairs[p].pool f.channel :=
      mem_heldOf.2 ⟨hf, rfl⟩
    refine ⟨hlive, fun p f hf => ?_, fun p => ?_, fun p c hc => ?_, hdisabled⟩
    · have ha := hagree p f.channel (howned p f hf)
      exact ⟨howned p f hf, ha.data f (hheld p f hf), ha.waits (List.ne_nil_of_mem (hheld p f hf)),
        ha.ahead f (hheld p f hf)⟩
    · have hordered : s.pairs[p].pool.Pairwise fun f g => f.channel = g.channel →
          offset (s.width p) f.s (s.expectedOf f.channel) + f.n ≤ offset (s.width p) g.s (s.expectedOf f.channel) := by
        rw [heldOrdered_iff]
        intro c
        by_cases hc : s.tables.channel[c].belongsTo p = true
        · refine List.Pairwise.imp_of_mem (fun {f g} hf _ hfg => ?_) (hagree p c hc).ordered
          rw [(mem_heldOf.1 hf).2]
          exact hfg
        · rw [hforeign p c (by simpa using hc)]
          exact .nil
      exact hordered.imp fun hfg hchannel => hchannel ▸ hfg hchannel
    · have ha := hagree p c hc
      constructor
      · rintro ⟨x, e, hq⟩
        obtain ⟨f, hf⟩ := List.exists_mem_of_ne_nil _ fun hnil => ha.closed hnil x e hq
        exact ⟨f, mem_heldOf.1 hf⟩
      · rintro ⟨f, hf⟩
        exact ha.gapOpen (List.ne_nil_of_mem (mem_heldOf.2 hf))

/-! ## The agreement under each change -/

theorem State.ChannelsAgree.same {s t : State} (h : s.ChannelsAgree) (hsame : s.SameHolds t) : t.ChannelsAgree where
  agree p c hc := by
    rw [hsame.channel] at hc ⊢
    rw [hsame.width, hsame.sequence, hsame.pool]
    exact h.agree p c hc
  foreign p c hc := by
    rw [hsame.channel] at hc
    rw [hsame.pool]
    exact h.foreign p c hc
  disabled c hc := by
    rw [hsame.channel] at hc
    rw [hsame.sequence]
    exact h.disabled c hc

theorem ChannelEntry.enabled_of_belongsTo {e : ChannelEntry} {p : PairId} (h : e.belongsTo p = true) :
    e.enabled = true ∧ e.pair = p := by
  simpa [ChannelEntry.belongsTo] using h

/-- A channel belongs to one pair only (R60). -/
theorem ChannelEntry.belongsTo_other {e : ChannelEntry} {p q : PairId} (h : e.belongsTo p = true) (hq : q ≠ p) :
    e.belongsTo q = false := by
  obtain ⟨-, rfl⟩ := ChannelEntry.enabled_of_belongsTo h
  simp [ChannelEntry.belongsTo, Ne.symm hq]

/-- A change of one channel's holds that ends in agreement. -/
theorem State.ChannelsAgree.settle {s t : State} {p : PairId} {c : ChannelId} (h : s.ChannelsAgree)
    (hc : s.tables.channel[c].belongsTo p = true) (hsettle : State.HoldsSettle p c s t) : t.ChannelsAgree := by
  obtain ⟨held, q, hb, hagree⟩ := hsettle
  refine ⟨fun p' c' hc' => ?_, fun p' c' hc' => ?_, fun c' hc' => ?_⟩ <;> rw [hb.channel] at hc'
  · rw [hb.width, hb.channel]
    by_cases hcc : c' = c
    · subst hcc
      have hp : p' = p := by
        by_contra hne
        rw [ChannelEntry.belongsTo_other hc hne] at hc'
        cases hc'
      subst hp
      rw [hb.sequence, hb.held]
      exact hagree
    · rw [hb.otherSequence c' hcc]
      by_cases hp : p' = p
      · subst hp
        rw [hb.otherHeld c' hcc]
        exact h.agree p' c' hc'
      · rw [hb.otherPools p' hp]
        exact h.agree p' c' hc'
  · by_cases hp : p' = p
    · subst hp
      have hcc : c' ≠ c := by
        rintro rfl
        rw [hc] at hc'
        cases hc'
      rw [hb.otherHeld c' hcc]
      exact h.foreign p' c' hc'
    · rw [hb.otherPools p' hp]
      exact h.foreign p' c' hc'
  · have hcc : c' ≠ c := by
      rintro rfl
      rw [(ChannelEntry.enabled_of_belongsTo hc).1] at hc'
      cases hc'
    rw [hb.otherSequence c' hcc]
    exact h.disabled c' hc'

/-- Agreement, with the pools of every pair but one as they were when that pair's arbiter began. -/
structure State.AgreeBeside (p : PairId) (pools : PairId → List ListedFrame) (s : State) : Prop
    extends s.ChannelsAgree where
  beside : ∀ q, q ≠ p → s.pairs[q].pool = pools q

theorem State.ChannelsAgree.beside {s : State} (h : s.ChannelsAgree) (p : PairId) :
    s.AgreeBeside p fun q => s.pairs[q].pool := ⟨h, fun _ _ => rfl⟩

theorem State.AgreeBeside.same {pools : PairId → List ListedFrame} {s t : State} {p : PairId}
    (h : s.AgreeBeside p pools) (hsame : s.SameHolds t) : t.AgreeBeside p pools :=
  ⟨h.toChannelsAgree.same hsame, fun q hq => (hsame.pool q).trans (h.beside q hq)⟩

theorem State.AgreeBeside.settle {pools : PairId → List ListedFrame} {s t : State} {p : PairId} {c : ChannelId}
    (h : s.AgreeBeside p pools) (hc : s.tables.channel[c].belongsTo p = true) (hsettle : State.HoldsSettle p c s t) :
    t.AgreeBeside p pools := by
  refine ⟨h.toChannelsAgree.settle hc hsettle, fun q hq => ?_⟩
  obtain ⟨_, _, hb, -⟩ := hsettle
  exact (hb.otherPools q hq).trans (h.beside q hq)

/-! ## Expiries (R103 to R105, R110 to R113, R115) -/

section
variable {pools : PairId → List ListedFrame} {s : State} {p : PairId} {c : ChannelId}

/-- An expiry step keeps the agreement: the lowest held frame is delivered and X advances to its end. -/
theorem State.AgreeBeside.expiryStep (h : s.AgreeBeside p pools) (hc : s.tables.channel[c].belongsTo p = true)
    (hw : 0 < s.width p) : (s.expiryStep p c).AgreeBeside p pools := by
  rcases Option.eq_none_or_eq_some (lowestHeld s.pairs[p].pool c) with hnone | ⟨f, hf⟩
  · rwa [s.expiryStep_none p c hnone]
  · obtain ⟨y, e, -, -, -, hy⟩ := s.expiryStep_eq p c f hf
    have hagree := h.agree p c hc
    have hheld : heldOf s.pairs[p].pool c = f :: (heldOf s.pairs[p].pool c).tail := by
      rw [lowestHeld_eq_head?] at hf
      exact List.eq_cons_of_mem_head? hf
    rw [hheld] at hagree
    have hahead := hagree.ahead f (List.mem_cons_self ..)
    refine h.settle hc ?_
    rw [e]
    refine State.HoldsBecome.release (held := (heldOf s.pairs[p].pool c).tail)
      (q := s.channels[c].sequence.withExpected (endOf (s.width p) f.s f.n)) ?_ hw
      (hagree.toHoldsOpen.deliver_head hw (by omega))
    rw [hy]
    exact ((((State.HoldsBecome.refl p c s).dropLowest _ rfl).same (State.deliver_sameHolds _ _ _)).same
      (State.accountGap_sameHolds _ _ _ _)).setExpected _

theorem State.expiryStep_tables : (s.expiryStep p c).tables = s.tables := (s.expiryStep_shifted p c).tables

/-- The restarted timer of a channel that still holds frames keeps the agreement (R105). -/
theorem State.AgreeBeside.startGapTimer (h : s.AgreeBeside p pools) (hc : s.tables.channel[c].belongsTo p = true)
    (hheld : heldOf s.pairs[p].pool c ≠ []) : (s.startGapTimer c).AgreeBeside p pools := by
  have hagree := h.agree p c hc
  refine h.settle hc ⟨_, _, (State.HoldsBecome.refl p c s).startGapTimer, ?_⟩
  exact ⟨⟨hagree.waits, hagree.data, hagree.ordered, fun _ => ⟨_, _, rfl⟩⟩, hagree.ahead, fun hnil => absurd hnil hheld⟩

theorem State.AgreeBeside.expireGap (h : s.AgreeBeside p pools) (hc : s.tables.channel[c].belongsTo p = true)
    (hw : 0 < s.width p) : (s.expireGap p c).AgreeBeside p pools := by
  have hstep := h.expiryStep hc hw
  unfold State.expireGap
  dsimp only
  split
  · rename_i hsome
    refine hstep.startGapTimer (by rw [State.expiryStep_tables]; exact hc) fun hnil => ?_
    rw [lowestHeld_eq_none.2 hnil] at hsome
    cases hsome
  · exact hstep

theorem State.AgreeBeside.drainLoop (turns : Nat) : ∀ s : State, s.AgreeBeside p pools →
    s.tables.channel[c].belongsTo p = true → 0 < s.width p → (s.drainLoop turns p c).AgreeBeside p pools := by
  induction turns with
  | zero => exact fun s h _ _ => h
  | succ turns ih =>
    intro s h hc hw
    unfold State.drainLoop
    split
    · refine ih _ (h.expiryStep hc hw) ?_ ?_
      · rwa [State.expiryStep_tables]
      · rwa [State.width, State.expiryStep_tables]
    · exact h

theorem State.AgreeBeside.drain (h : s.AgreeBeside p pools) (hc : s.tables.channel[c].belongsTo p = true)
    (hw : 0 < s.width p) : (s.drain p c).AgreeBeside p pools :=
  State.AgreeBeside.drainLoop _ s h hc hw

/-- The channel whose wait began first belongs to the pair that holds a frame of it. -/
theorem State.AgreeBeside.oldestWait_belongsTo (h : s.AgreeBeside p pools) (hold : s.oldestWait p = some c) :
    s.tables.channel[c].belongsTo p = true := by
  obtain ⟨f, hf⟩ := (s.oldestWait_spec p).2 c hold
  obtain ⟨hmem, rfl⟩ := lowestHeld_some hf
  by_contra hc
  exact heldOf_eq_nil.1 (h.foreign p f.channel (by simpa using hc)) f hmem rfl

theorem State.AgreeBeside.forceExpiry (h : s.AgreeBeside p pools) (hw : 0 < s.width p) : (s.forceExpiry p).AgreeBeside p pools := by
  unfold State.forceExpiry
  split
  · exact h
  · rename_i c hold
    exact ((h.expireGap (h.oldestWait_belongsTo hold) hw).same (State.setCounters_sameHolds _ _ _)).same
      (State.raise_sameHolds _ _)

theorem State.AgreeBeside.releaseAllLoop (turns : Nat) : ∀ s : State, s.AgreeBeside p pools → 0 < s.width p →
    (s.releaseAllLoop turns p).AgreeBeside p pools := by
  induction turns with
  | zero => exact fun s h _ => h
  | succ turns ih =>
    intro s h hw
    unfold State.releaseAllLoop
    split
    · exact h
    · rename_i c hold
      refine ih _ (h.drain (h.oldestWait_belongsTo hold) hw) ?_
      rwa [State.width, (s.drain_shifted p c).tables]

theorem State.AgreeBeside.releaseAll (h : s.AgreeBeside p pools) (hw : 0 < s.width p) : (s.releaseAll p).AgreeBeside p pools :=
  State.AgreeBeside.releaseAllLoop _ s h hw

/-! ## The case table (R77 to R87) -/

theorem HoldsAgree.withExpected_of_empty {w gapWait : Nat} {q : SequenceState} {held : List ListedFrame}
    (h : HoldsAgree w gapWait q held) (hnil : held = []) (y : Nat) : HoldsAgree w gapWait (q.withExpected y) held := by
  subst hnil
  refine .of_empty fun x e hq => ?_
  obtain ⟨x', e', hq'⟩ := (q.withExpected_gapOpen y).1 ⟨x, e, hq⟩
  exact h.closed rfl x' e' hq'

/-- A delivery, the advance of X and the insertion in the window, of a channel that holds nothing. -/
theorem State.AgreeBeside.advance_of_empty {t u : State} {y : Nat} (h : s.AgreeBeside p pools)
    (hc : s.tables.channel[c].belongsTo p = true) (hnil : heldOf s.pairs[p].pool c = []) (hst : s.SameHolds t)
    (htu : (t.setExpected c y).SameHolds u) : u.AgreeBeside p pools :=
  h.settle hc ⟨_, _, (((State.HoldsBecome.refl p c s).same hst).setExpected y).same htu,
    (h.agree p c hc).withExpected_of_empty hnil y⟩

variable {f : ListedFrame}

/-- A channel that is not GAP_OPEN holds nothing (R75). -/
theorem State.AgreeBeside.held_of_closed (h : s.AgreeBeside p pools) (hc : s.tables.channel[c].belongsTo p = true)
    (hq : ∀ x e, s.channels[c].sequence ≠ .gapOpen x e) : heldOf s.pairs[p].pool c = [] := by
  by_contra hne
  obtain ⟨x, e, hopen⟩ := (h.agree p c hc).gapOpen hne
  exact hq x e hopen

theorem State.AgreeBeside.firstFrame (h : s.AgreeBeside p pools) (hc : s.tables.channel[f.channel].belongsTo p = true)
    (hx : s.channels[f.channel].sequence.expected = none) : (s.firstFrame p f).AgreeBeside p pools := by
  refine h.advance_of_empty hc (h.held_of_closed hc fun x e hq => ?_) (s.deliver_sameHolds _ _)
    (State.insertTwin_sameHolds _ _ _ _)
  rw [hq] at hx
  cases hx

theorem State.filterWindow_sameHolds (s : State) (p : PairId) (keep : TwinEntry → Bool) :
    s.SameHolds (s.setPair p { s.pairs[p] with window := s.pairs[p].window.filter keep }) :=
  s.setPair_sameHolds p _ rfl

theorem State.AgreeBeside.sequenceReset (h : s.AgreeBeside p pools) (hc : s.tables.channel[f.channel].belongsTo p = true)
    (hw : 0 < s.width p) : (s.sequenceReset p f).AgreeBeside p pools := by
  have hdrained := h.drain hc hw
  have hnil := lowestHeld_eq_none.1 (s.drain_pool p f.channel).1
  rw [← (s.drain_shifted p f.channel).tables] at hc
  unfold State.sequenceReset
  dsimp only
  generalize s.drain p f.channel = t at hdrained hnil hc ⊢
  exact hdrained.advance_of_empty hc hnil (t.deliver_sameHolds p _) (((State.filterWindow_sameHolds _ p _).trans
    (State.raise_sameHolds _ _)).trans (State.insertTwin_sameHolds _ _ _ _))

theorem State.AgreeBeside.oldFrame (h : s.AgreeBeside p pools) : (s.oldFrame p f).AgreeBeside p pools := by
  unfold State.oldFrame
  split
  · exact h.same (s.setPair_sameHolds p _ (PairArbiter.twinLookup_pool ‹_›))
  · exact h.same (s.setCounters_sameHolds p _)

theorem State.AgreeBeside.inStepFrame {x : Nat} (h : s.AgreeBeside p pools)
    (hc : s.tables.channel[f.channel].belongsTo p = true) (hw : 17 ≤ s.width p) (hn : f.n ≤ 65535)
    (hx : s.channels[f.channel].sequence.expected = some x) (hstart : offset (s.width p) f.s x ≤ 0)
    (hend : 0 < offset (s.width p) f.s x + f.n) (d : Int) : (s.inStepFrame p f d).AgreeBeside p pools := by
  have hexpected : s.channels[f.channel].sequence.expected.getD 0 = x := by rw [hx, Option.getD_some]
  refine h.settle hc (State.HoldsBecome.release ((((State.HoldsBecome.refl p f.channel s).same
    (s.deliver_sameHolds _ _)).setExpected _).same (State.insertTwin_sameHolds _ _ _ _)) (by omega) ?_)
  refine (h.agree p f.channel hc).advance hw hn ?_ ?_ <;> rw [hexpected]
  · exact hstart
  · exact hend.le

theorem State.AgreeBeside.giveUpGap (h : s.AgreeBeside p pools) (hc : s.tables.channel[f.channel].belongsTo p = true)
    (hwait : s.tables.channel[f.channel].gapWait = 0) (gap : Nat) : (s.giveUpGap p f gap).AgreeBeside p pools := by
  refine h.advance_of_empty hc ?_ ((s.deliver_sameHolds _ _).trans (State.accountGap_sameHolds _ _ _ _))
    (State.insertTwin_sameHolds _ _ _ _)
  by_contra hne
  exact (h.agree p f.channel hc).waits hne hwait

/-- A held frame joins the pool, and the gap is open (R85, R101). -/
theorem State.hold_becomes (s : State) (p : PairId) (f : ListedFrame) (x : Nat)
    (hx : s.channels[f.channel].sequence.expected = some x) :
    ∃ e, State.HoldsBecome p f.channel (heldOf (insertHeld (s.width p) x f s.pairs[p].pool) f.channel) (.gapOpen x e) s
      (s.hold p f) := by
  have hplaced := ((State.HoldsBecome.refl p f.channel s).setPool
    { s.pairs[p] with pool := insertHeld (s.width p) x f s.pairs[p].pool } fun c' hc' =>
      heldOf_insertHeld_other _ _ _ _ (Ne.symm hc')).same (State.insertTwin_sameHolds _ p f .data)
  have hsequence := hplaced.sequence
  unfold State.hold
  dsimp only
  rw [s.expectedOf_of_some f.channel x hx]
  split
  · rename_i y e hq
    have hopen : s.channels[f.channel].sequence = .gapOpen y e := hsequence.symm.trans hq
    rw [hopen] at hx hplaced
    obtain rfl := Option.some.inj hx
    exact ⟨e, hplaced⟩
  · have hstarted := hplaced.startGapTimer
    rw [hx, Option.getD_some] at hstarted
    exact ⟨_, hstarted⟩

theorem State.AgreeBeside.hold {x : Nat} (h : s.AgreeBeside p pools) (hc : s.tables.channel[f.channel].belongsTo p = true)
    (hn : f.n ≠ 0) (hwait : s.tables.channel[f.channel].gapWait ≠ 0)
    (hx : s.channels[f.channel].sequence.expected = some x) (hstart : 0 < offset (s.width p) f.s x)
    (hclear : overlapsHeld (s.width p) x f s.pairs[p].pool = false) : (s.hold p f).AgreeBeside p pools := by
  obtain ⟨e, hbecome⟩ := s.hold_becomes p f x hx
  have hagree := h.agree p f.channel hc
  have hordered := hagree.ordered
  have hahead := hagree.ahead
  rw [hx, Option.getD_some] at hordered hahead
  have hmem (g : ListedFrame) (hg : g ∈ heldOf (insertHeld (s.width p) x f s.pairs[p].pool) f.channel) :
      g = f ∨ g ∈ heldOf s.pairs[p].pool f.channel := by
    obtain ⟨hg, hchannel⟩ := mem_heldOf.1 hg
    exact ((insertHeld_mem _ _ _ _ _).1 hg).imp_right fun hg => mem_heldOf.2 ⟨hg, hchannel⟩
  refine h.settle hc ⟨_, _, hbecome, ⟨fun _ => hwait, fun g hg => ?_, ?_, fun _ => ⟨_, _, rfl⟩⟩, fun g hg => ?_, fun hnil => ?_⟩
  · rcases hmem g hg with rfl | hg
    · exact hn
    · exact hagree.data g hg
  · refine hordered.insertHeld hn fun g hg hover => ?_
    obtain ⟨hg, hchannel⟩ := mem_heldOf.1 hg
    rw [(overlapsHeld_iff _ _ _ _).2 ⟨g, hg, hchannel, hover⟩] at hclear
    cases hclear
  · rcases hmem g hg with rfl | hg
    · exact hstart
    · exact hahead g hg
  · exact absurd rfl (heldOf_eq_nil.1 hnil f ((insertHeld_mem _ _ _ _ _).2 (.inl rfl)))

theorem State.AgreeBeside.aheadFrame {x : Nat} {t : State} {d : Int} (h : s.AgreeBeside p pools)
    (hc : s.tables.channel[f.channel].belongsTo p = true) (hn : f.n ≠ 0)
    (hx : s.channels[f.channel].sequence.expected = some x) (hstart : 0 < offset (s.width p) f.s x)
    (ht : s.aheadFrame p f d = some t) : t.AgreeBeside p pools := by
  unfold State.aheadFrame at ht
  rw [s.expectedOf_of_some f.channel x hx] at ht
  split at ht
  · obtain rfl := Option.some.inj ht
    exact h.same (s.setPair_sameHolds p _ (PairArbiter.twinLookup_pool ‹_›))
  · split_ifs at ht with hover hwait hroom <;> obtain rfl := Option.some.inj ht
    · exact h.same (s.setCounters_sameHolds p _)
    · exact h.giveUpGap hc hwait _
    · exact h.hold hc hn hwait hx hstart (by simpa using hover)

theorem State.AgreeBeside.examineData {t : State} (h : s.AgreeBeside p pools)
    (hc : s.tables.channel[f.channel].belongsTo p = true) (hw : 17 ≤ s.width p) (hn : f.n ≠ 0) (hcount : f.n ≤ 65535)
    (ht : s.examineData p f = some t) : t.AgreeBeside p pools := by
  unfold State.examineData at ht
  split at ht
  · obtain rfl := Option.some.inj ht
    exact h.firstFrame hc ‹_›
  · rename_i x hx
    dsimp only at ht
    split_ifs at ht with hreset hold hstep
    · obtain rfl := Option.some.inj ht
      exact h.sequenceReset hc (by omega)
    · obtain rfl := Option.some.inj ht
      exact h.oldFrame
    · obtain rfl := Option.some.inj ht
      exact h.inStepFrame hc hw hcount hx hstep (by omega) _
    · exact h.aheadFrame hc hn hx (by omega) ht

theorem State.AgreeBeside.dataFrame (h : s.AgreeBeside p pools) (hc : s.tables.channel[f.channel].belongsTo p = true)
    (hw : 17 ≤ s.width p) (hn : f.n ≠ 0) (hcount : f.n ≤ 65535) : (s.dataFrame p f).AgreeBeside p pools := by
  unfold State.dataFrame
  split
  · exact h.examineData hc hw hn hcount ‹_›
  · have hforced := h.forceExpiry (p := p) (by omega)
    have htables := (s.forceExpiry_shifted p).tables
    rcases Option.eq_none_or_eq_some ((s.forceExpiry p).examineData p f) with hnone | ⟨t, ht⟩
    · simpa only [hnone, Option.getD_none] using hforced
    · simp only [ht, Option.getD_some]
      refine hforced.examineData ?_ ?_ hn hcount ht
      · rwa [htables]
      · rwa [State.width, htables]

theorem State.AgreeBeside.heartbeat (h : s.AgreeBeside p pools) (hc : s.tables.channel[f.channel].belongsTo p = true) :
    (s.heartbeat p f).AgreeBeside p pools := by
  unfold State.heartbeat
  split
  · exact h.same (s.setPair_sameHolds p _ (PairArbiter.twinLookup_pool ‹_›))
  · unfold State.deliverBeat
    split
    · rename_i hx
      refine h.advance_of_empty hc (h.held_of_closed hc fun x e hq => ?_) (s.deliver_sameHolds _ _)
        (State.insertTwin_sameHolds _ _ _ _)
      rw [hq] at hx
      cases hx
    · exact h.same ((s.deliver_sameHolds _ _).trans (State.insertTwin_sameHolds _ _ _ _))

end

/-! ## A taken record -/

theorem bigEndian_lt (bs : List Byte) : bigEndian bs < 256 ^ bs.length := by
  induction bs with
  | nil => simp [bigEndian]
  | cons b bs ih =>
    have hb : b.toNat ≤ 255 := Nat.le_of_lt_succ b.isLt
    rw [bigEndian_cons, List.length_cons, pow_succ']
    calc b.toNat * 256 ^ bs.length + bigEndian bs < b.toNat * 256 ^ bs.length + 256 ^ bs.length := by omega
      _ = (b.toNat + 1) * 256 ^ bs.length := by ring
      _ ≤ 256 * 256 ^ bs.length := Nat.mul_le_mul_right _ (by omega)

/-- A number read by a profile from k bytes is less than 256 to the k (R64). -/
theorem ProfileEntry.numOf_lt (e : ProfileEntry) (bytes : List Byte) (o k : Nat) : e.numOf bytes o k < 256 ^ k := by
  have hlen : (slice bytes o k).length ≤ k := List.length_take_le ..
  refine lt_of_lt_of_le ?_ (Nat.pow_le_pow_right (by decide) hlen)
  unfold ProfileEntry.numOf
  split
  · exact (bigEndian_lt _).trans_eq (by rw [List.length_reverse])
  · exact bigEndian_lt _

/-- The message count of a listed frame fits the two bytes of the widest count field (R59, R64). -/
theorem Tables.classify_count_le (t : Tables) (p : PairId) (bytes : List Byte) (c : ChannelId) (q n : Nat)
    (hwidth : t.profile[p].countWidth ≤ 2) (h : t.classify p bytes = .listed c q n) : n ≤ 65535 := by
  have hn : n = t.profile[p].countOf bytes := by
    unfold Tables.classify at h
    dsimp only at h
    split_ifs at h
    split at h
    · exact (Classified.listed.inj h).2.2.symm
    · cases h
  rw [hn, ProfileEntry.countOf]
  split
  · decide
  · refine Nat.le_of_lt_succ ((ProfileEntry.numOf_lt _ _ _ _).trans_le ?_)
    exact (Nat.pow_le_pow_right (by decide) hwidth).trans (by decide)

theorem State.AgreeBeside.unlistedFrame {pools : PairId → List ListedFrame} {s : State} {p : PairId}
    (h : s.AgreeBeside p pools) (r : FrameRecord)
    (decodable : Bool) : (s.unlistedFrame p r decodable).AgreeBeside p pools := by
  unfold State.unlistedFrame
  dsimp only
  split
  · exact h.same (s.setCounters_sameHolds p _)
  · exact h.same ((s.setCounters_sameHolds p _).trans (State.deliver_sameHolds _ _ _))

theorem State.AgreeBeside.handleRecord {pools : PairId → List ListedFrame} {s : State} {p : PairId}
    (h : s.AgreeBeside p pools) (hw : 17 ≤ s.width p)
    (hcount : s.tables.profile[p].countWidth ≤ 2) (r : FrameRecord) : (s.handleRecord p r).AgreeBeside p pools := by
  rcases s.handleRecord_cases p r with ⟨decodable, e⟩ | ⟨c, q, n, hlisted, ⟨-, e⟩ | ⟨hn, e⟩⟩ <;> rw [e]
  · exact h.unlistedFrame r decodable
  · exact h.heartbeat (s.tables.classify_belongsTo p _ c q n hlisted)
  · exact h.dataFrame (s.tables.classify_belongsTo p _ c q n hlisted) hw hn
      (s.tables.classify_count_le p _ c q n hcount hlisted)

/-! ## Every effect -/

theorem State.pairLive_of_modes {s t : State} (h : ∀ l : LineId, t.lines[l].mode = s.lines[l].mode) (p : PairId) :
    t.pairLive p = s.pairLive p := by
  simp only [State.pairLive, h]

theorem State.HoldsSound.of_same {s t : State} (hs : s.HoldsSound) (hsame : s.SameHolds t)
    (hlive : ∀ p, t.pairLive p = s.pairLive p) : t.HoldsSound := by
  obtain ⟨hholds, hagree⟩ := s.holdsSound_iff.1 hs
  refine t.holdsSound_iff.2 ⟨fun p hp => ?_, hagree.same hsame⟩
  rw [hsame.pool]
  exact hholds p (hlive p ▸ hp)

theorem State.HoldsSound.steered {s t : State} (hs : s.HoldsSound) (hst : s.Steered t) : t.HoldsSound := by
  rw [hst.rest]
  exact hs

theorem State.setLine_modes (s : State) (l : LineId) (f : FeedLine) (h : f.mode = s.lines[l].mode) :
    ∀ l' : LineId, (s.setLine l f).lines[l'].mode = s.lines[l'].mode :=
  forall_getElem_set (P := fun l (f : FeedLine) => f.mode = s.lines[l].mode) s.lines l f h fun _ => rfl

/-- A change of a line that keeps its mode leaves the holds. -/
theorem State.HoldsSound.setLine {s : State} (hs : s.HoldsSound) (l : LineId) (f : FeedLine)
    (h : f.mode = s.lines[l].mode) : (s.setLine l f).HoldsSound :=
  hs.of_same ⟨rfl, rfl, fun _ => rfl, fun _ => rfl⟩ (State.pairLive_of_modes (s.setLine_modes l f h))

/-- A pair with a LIVE line has a profile of 4 or 8 bytes (R59, R71). -/
theorem State.LinesSound.width {s : State} (h : s.LinesSound) (p : PairId) (hp : s.pairLive p = true) : 17 ≤ s.width p := by
  obtain ⟨-, hlive, hwidth, -⟩ := h
  have henabled : s.tables.profile[p].enabled = true := by
    have hside (l : LineId) (hpair : pairOf l = p) (hl : s.lines[l].mode = .live) : s.tables.profile[p].enabled = true :=
      hpair ▸ hlive l hl
    exact ((s.pairLive_iff p).1 hp).elim (hside _ (pairOf_sideA p)) (hside _ (pairOf_sideB p))
  rw [State.width]
  rcases hwidth p henabled with hw | hw <;> rw [hw] <;> decide

/-- The pool of a pair with holds belongs to a pair with a LIVE line (R113). -/
theorem State.OnlyLiveHolds.live {s : State} (h : s.OnlyLiveHolds) {p : PairId} (hp : s.pairs[p].pool ≠ []) :
    s.pairLive p = true := by
  by_contra hlive
  exact hp (h p (by simpa using hlive))

/-- An operation of one pair's arbiter on a pair with a LIVE line keeps the pools of the other pairs. -/
theorem State.OnlyLiveHolds.pair {s t : State} {p : PairId} (h : s.OnlyLiveHolds) (hp : s.pairLive p = true)
    (hlines : t.lines = s.lines) (hother : t.AgreeBeside p fun q => s.pairs[q].pool) : t.OnlyLiveHolds := by
  intro q hq
  rw [State.pairLive, hlines] at hq
  by_cases hqp : q = p
  · subst hqp
    rw [State.pairLive] at hp
    rw [hp] at hq
    cases hq
  · rw [hother.beside q hqp]
    exact h q hq

/-- A release of a pair's holds leaves none (R113). -/
theorem State.releaseAllLoop_pool (p : PairId) (turns : Nat) : ∀ s : State, s.pairs[p].pool.length ≤ turns →
    (s.releaseAllLoop turns p).pairs[p].pool = [] := by
  induction turns with
  | zero => exact fun s h => List.length_eq_zero_iff.1 (Nat.le_zero.1 h)
  | succ turns ih =>
    intro s h
    rcases Option.eq_none_or_eq_some (s.oldestWait p) with hnone | ⟨c, hold⟩
    · simp only [State.releaseAllLoop, hnone]
      exact (s.oldestWait_spec p).1.1 hnone
    · simp only [State.releaseAllLoop, hold]
      obtain ⟨f, hf⟩ := (s.oldestWait_spec p).2 c hold
      have hshorter := (s.drain_pool p c).2.2 (by rw [hf]; nofun)
      exact ih _ (by omega)

theorem State.releaseAll_pool (s : State) (p : PairId) : (s.releaseAll p).pairs[p].pool = [] :=
  s.releaseAllLoop_pool p _ (Nat.le_refl _)

/-- A pair loses its last LIVE line only through the line that leaves LIVE. -/
theorem State.pairLive_lost (s : State) (l : LineId) (f : FeedLine) (q : PairId) (hbefore : s.pairLive q = true)
    (hafter : (s.setLine l f).pairLive q = false) : s.lines[l].mode = .live ∧ q = pairOf l := by
  have hside (k : LineId) (hk : pairOf k = q) (hmode : s.lines[k].mode = .live) :
      s.lines[l].mode = .live ∧ q = pairOf l := by
    by_cases hlk : l = k
    · subst hlk
      exact ⟨hmode, hk.symm⟩
    · have hlive := (s.setLine l f).pairLive_of_line k
        ((congrArg FeedLine.mode (vector_getElem_set_ne _ _ _ _ hlk)).trans hmode)
      rw [hk, hafter] at hlive
      cases hlive
  exact ((s.pairLive_iff q).1 hbefore).elim (hside _ (pairOf_sideA q)) (hside _ (pairOf_sideB q))

theorem State.HoldsSound.changeMode {s : State} (hs : s.HoldsSound) (hlines : s.LinesSound) (l : LineId) (m : LineMode) :
    (s.changeMode l m).HoldsSound := by
  obtain ⟨hholds, hagree⟩ := s.holdsSound_iff.1 hs
  have hwidth (hlive : s.lines[l].mode = .live) := hlines.width _ (s.pairLive_of_line l hlive)
  unfold State.changeMode
  dsimp only
  generalize s.lines[l].changeMode m s.tables.line[l].silenceLimit s.tick = f
  have hset : (s.setLine l f).ChannelsAgree := hagree.same ⟨rfl, rfl, fun _ => rfl, fun _ => rfl⟩
  have hstill (q : PairId) (hq : (s.setLine l f).pairLive q = false)
      (hnot : ¬(s.lines[l].mode = .live ∧ q = pairOf l)) : s.pairs[q].pool = [] := by
    by_cases hbefore : s.pairLive q = true
    · exact absurd (s.pairLive_lost l f q hbefore hq) hnot
    · exact hholds q (by simpa using hbefore)
  split
  · rename_i hcond
    have hw : 0 < (s.setLine l f).width (pairOf l) := by
      have := hwidth hcond.1
      exact lt_of_lt_of_le (by decide) this
    have hreleased := (hset.beside (pairOf l)).releaseAll hw
    refine (State.holdsSound_iff _).2 ⟨fun q hq => ?_, hreleased.toChannelsAgree⟩
    by_cases hqp : q = pairOf l
    · subst hqp
      exact State.releaseAll_pool _ _
    · rw [hreleased.beside q hqp]
      rw [State.pairLive, (State.releaseAll_shifted _ _).lines] at hq
      exact hstill q hq fun h => hqp h.2
  · rename_i hcond
    refine (State.holdsSound_iff _).2 ⟨fun q hq => hstill q hq fun h => hcond ⟨h.1, ?_⟩, hset⟩
    rw [← h.2]
    exact hq

/-- CLEAR_FEEDS at a pair: its channels are UNSEEN and it holds nothing (R95). -/
theorem State.HoldsSound.clearPair {s : State} (hs : s.HoldsSound) (p : PairId) : (s.clearPair p).HoldsSound := by
  obtain ⟨hholds, hagree⟩ := s.holdsSound_iff.1 hs
  obtain ⟨-, hcleared, hother, hchannel⟩ := s.clearPair_spec p
  have hpool (q : PairId) : (s.clearPair p).pairs[q].pool = [] ∨ (s.clearPair p).pairs[q].pool = s.pairs[q].pool := by
    by_cases hq : q = p
    · subst hq
      rw [hcleared]
      exact .inl rfl
    · rw [hother q hq]
      exact .inr rfl
  refine (State.holdsSound_iff _).2 ⟨fun q hq => (hpool q).elim id fun h => h.trans (hholds q hq), fun q c hc => ?_,
    fun q c hc => ?_, fun c hc => ?_⟩
  · by_cases hq : q = p
    · subst hq
      have hc' : s.tables.channel[c].belongsTo q = true := hc
      rw [hchannel, if_pos hc', hcleared]
      exact .of_empty nofun
    · have hnot : s.tables.channel[c].belongsTo p = false := ChannelEntry.belongsTo_other hc (Ne.symm hq)
      rw [hother q hq, hchannel, hnot]
      exact hagree.agree q c hc
  · rcases hpool q with h | h <;> rw [h]
    · rfl
    · exact hagree.foreign q c hc
  · rw [hchannel]
    split
    · rfl
    · exact hagree.disabled c hc

/-- A PROFILE entry is written while its pair holds nothing (R67). -/
theorem State.HoldsSound.writeProfile {s : State} (hs : s.HoldsSound) (p : PairId) (e : ProfileEntry)
    (hdead : s.pairLive p = false) : (s.writeProfile p e).HoldsSound := by
  obtain ⟨hholds, hagree⟩ := s.holdsSound_iff.1 hs
  refine (State.holdsSound_iff _).2 ⟨hholds, fun q c hc => ?_, hagree.foreign, hagree.disabled⟩
  have hbefore := hagree.agree q c hc
  change HoldsAgree (8 * (s.tables.profile.set p e)[q].sequenceWidth) s.tables.channel[c].gapWait s.channels[c].sequence
    (heldOf s.pairs[q].pool c)
  by_cases hq : p = q
  · subst hq
    rw [hholds p hdead] at hbefore ⊢
    exact .of_empty (hbefore.closed rfl)
  · rw [vector_getElem_set_ne _ _ _ _ hq]
    exact hbefore

/-- A CHANNEL entry is written while no frame of its channel is held (R67, R70). -/
theorem State.HoldsSound.writeChannel {s : State} (hs : s.HoldsSound) (c : ChannelId) (e : ChannelEntry)
    (hgate : s.channelGate c e = false) : (s.writeChannel c e).HoldsSound := by
  obtain ⟨hholds, hagree⟩ := s.holdsSound_iff.1 hs
  have hnone (p : PairId) : heldOf s.pairs[p].pool c = [] := by
    by_cases hc : s.tables.channel[c].belongsTo p = true
    · obtain ⟨henabled, hpair⟩ := ChannelEntry.enabled_of_belongsTo hc
      have hdead : s.pairLive p = false := by
        by_contra hlive
        rw [State.channelGate, henabled, hpair, (by simpa using hlive : s.pairLive p = true)] at hgate
        cases hgate
      rw [hholds p hdead]
      rfl
    · exact hagree.foreign p c (by simpa using hc)
  have hsame (c' : ChannelId) (h : c ≠ c') : (s.writeChannel c e).tables.channel[c'] = s.tables.channel[c'] ∧
      (s.writeChannel c e).channels[c'] = s.channels[c'] :=
    ⟨vector_getElem_set_ne _ _ _ _ h, vector_getElem_set_ne _ _ _ _ h⟩
  have hunseen : (s.writeChannel c e).channels[c].sequence = .unseen := congrArg Channel.sequence (vector_getElem_set _ _ _)
  refine (State.holdsSound_iff _).2 ⟨hholds, fun q c' hc' => ?_, fun q c' hc' => ?_, fun c' hc' => ?_⟩
  · by_cases h : c = c'
    · subst h
      rw [hunseen]
      change HoldsAgree _ _ _ (heldOf s.pairs[q].pool c)
      rw [hnone q]
      exact .of_empty nofun
    · rw [(hsame c' h).1] at hc' ⊢
      rw [(hsame c' h).2]
      exact hagree.agree q c' hc'
  · by_cases h : c = c'
    · subst h
      exact hnone q
    · rw [(hsame c' h).1] at hc'
      exact hagree.foreign q c' hc'
  · by_cases h : c = c'
    · subst h
      exact hunseen
    · rw [(hsame c' h).1] at hc'
      rw [(hsame c' h).2]
      exact hagree.disabled c' hc'

/-- A record is taken from a LIVE line, so into the holds of a pair that may hold (R44, R113). -/
theorem State.HoldsSound.take {s : State} (hs : s.HoldsSound) (hlines : s.LinesSound) {p : PairId} {l : LineId}
    {r : FrameRecord} {rest : List FrameRecord} (hl : l = sideA p ∨ l = sideB p) (hbuffer : s.lines[l].buffer = r :: rest) :
    ((s.removeHead p l rest).handleRecord p r).HoldsSound := by
  obtain ⟨hholds, hagree⟩ := s.holdsSound_iff.1 hs
  obtain ⟨hempty, -, -, -, -, hcount, -⟩ := id hlines
  have hmode : s.lines[l].mode = .live := by
    by_contra hmode
    rw [hempty l hmode] at hbuffer
    cases hbuffer
  have hpair : pairOf l = p := by
    rcases hl with rfl | rfl
    · exact pairOf_sideA p
    · exact pairOf_sideB p
  have hlive := s.pairLive_of_line l hmode
  rw [hpair] at hlive
  have hmodes := State.pairLive_of_modes (t := s.removeHead p l rest) (s.setLine_modes l { s.lines[l] with buffer := rest } rfl)
  have hpool : ∀ q : PairId, (s.removeHead p l rest).pairs[q].pool = s.pairs[q].pool :=
    forall_getElem_set (P := fun q (a : PairArbiter) => a.pool = s.pairs[q].pool) s.pairs p _ rfl fun _ => rfl
  have hremoved : (s.removeHead p l rest).ChannelsAgree := hagree.same ⟨rfl, rfl, hpool, fun _ => rfl⟩
  have hhandled := (hremoved.beside p).handleRecord (hlines.width p hlive) (hcount p) r
  refine (State.holdsSound_iff _).2 ⟨?_, hhandled.toChannelsAgree⟩
  refine State.OnlyLiveHolds.pair (s := s.removeHead p l rest) (fun q hq => ?_) ((hmodes p).trans hlive)
    (State.handleRecord_shifted _ p r).lines hhandled
  rw [hpool q]
  exact hholds q ((hmodes q).symm.trans hq)

/-- A gap timer runs only while its pair holds a frame of its channel (R75). -/
theorem State.HoldsSound.expireGap {s : State} (hs : s.HoldsSound) (hlines : s.LinesSound) {p : PairId} {c : ChannelId}
    {x e : Nat} (hopen : s.channels[c].sequence = .gapOpen x e) (hc : s.tables.channel[c].belongsTo p = true) :
    (s.expireGap p c).HoldsSound := by
  obtain ⟨hholds, hagree⟩ := s.holdsSound_iff.1 hs
  have hlive : s.pairLive p = true := hholds.live fun hnil =>
    (hagree.agree p c hc).closed (by rw [hnil]; rfl) x e hopen
  have hexpired := (hagree.beside p).expireGap hc (lt_of_lt_of_le (by decide) (hlines.width p hlive))
  exact (State.holdsSound_iff _).2 ⟨hholds.pair hlive (s.expireGap_shifted p c).lines hexpired, hexpired.toChannelsAgree⟩

theorem State.Effect.holdsSound {s t : State} (h : s.Effect t) (hlines : s.LinesSound) (hs : s.HoldsSound) :
    t.HoldsSound := by
  cases h with
  | pulse r x _ _ => exact hs.steered (s.monitorEvent_steered ..)
  | miss r => exact hs.steered (s.monitorEvent_steered ..)
  | discipline d _ _ => exact hs.steered (s.applyDiscipline_steered d)
  | manage r _ _ _ => exact hs.steered (s.installManaged_steered r)
  | line l f hf => exact hs.setLine l f hf.mode
  | mode l m _ _ => exact hs.changeMode hlines l m
  | pair p a ha => exact hs.of_same (s.setPair_sameHolds p a ha.pool) fun _ => rfl
  | take p l r rest hl hbuffer => exact hs.take hlines hl hbuffer
  | gap p c x e hopen hc => exact hs.expireGap hlines hopen hc
  | clear p => exact hs.clearPair p
  | lineEntry l e =>
    have hmode : (s.lines[l].newLimit e.silenceLimit s.tick).mode = s.lines[l].mode := by
      obtain ⟨start, silent, heq⟩ := s.lines[l].newLimit_cases e.silenceLimit s.tick
      rw [heq]
    exact hs.setLine l _ hmode
  | profileEntry p e hdead _ _ => exact hs.writeProfile p e hdead
  | channelEntry c e hgate _ => exact hs.writeChannel c e hgate
  | disable r e _ =>
    refine State.HoldsSound.steered ?_ (State.disableReference_steered _ r)
    exact hs
  | _ => exact hs

theorem State.holdsSound_keptByParts : State.KeptByParts fun s => s.LinesSound ∧ s.HoldsSound where
  effect _ _ h := fun ⟨hlines, hs⟩ => ⟨h.linesSound hlines, h.holdsSound hlines hs⟩
  unit _ _ hs := hs
  inbox _ _ _ hs := hs
  delivery _ _ _ _ hs := hs
  restart s _ := ⟨s.startRestart_holdsResetValues.linesSound, s.startRestart_holdsResetValues.holdsSound⟩
  reset s clock pins latch _ :=
    ⟨(s.resetBlocks_holdsResetValues clock pins latch).linesSound, (s.resetBlocks_holdsResetValues clock pins latch).holdsSound⟩
  pending _ _ hs := hs

/-- Settles O59: every part of a step keeps holds and channel states in agreement, while lines and tables agree. -/
theorem holdsStaySound : Obligations.HoldsStaySound := fun _ _ hlines hs hst =>
  (State.holdsSound_keptByParts.step hst ⟨hlines, hs⟩).2

end Sys2Proof.Machine
end

section
/-! The reset pin, the clock and the time base (R1, R14 to R20, R178): what holds the part, what its clock starts, and
what a completed discipline computation installs. -/

namespace Sys2Proof.Machine

/-- Settles O1: a step unfolds to the front command on the rest of the queue. -/
theorem stepRunsFrontCommand : Obligations.StepRunsFrontCommand := fun s c rest h => by
  simp only [step, h]

/-! ## RESET_N and the clock (R1, R178) -/

/-- While RESET_N is low every row but its own and its release leaves the part as it is. -/
theorem exec_of_resetHeld (s : State) (c : Instr) (h : s.clock = .resetHeld) (hreset : c ≠ .powerOnReset)
    (hrelease : ∀ straps, c ≠ .powerOnResetRelease straps) : exec c s = .next s := by
  have hreleased (f : State → State) : (.next (s.whenReleased f) : Host.Outcome State Fault Refusal) = .next s :=
    congrArg _ (s.whenReleased_held f h)
  have hrunning (f : State → State) : (.next (s.whenRunning f) : Host.Outcome State Fault Refusal) = .next s :=
    congrArg _ (s.whenRunning_of_ne f (by rw [h]; nofun))
  cases c with
  | powerOnReset => exact absurd rfl hreset
  | powerOnResetRelease straps => exact absurd rfl (hrelease straps)
  | stampingClockLock => exact congrArg _ (if_neg (by rw [h]; nofun))
  | pulseEvent _ => exact hrunning _
  | disciplineCompletion => exact hrunning _
  | holdoverExpiry => exact hrunning _
  | pulseTimeoutExpiry _ => exact hrunning _
  | startOfFrame _ _ => exact hrunning _
  | silenceTimerExpiry _ => exact hrunning _
  | gapTimerExpiry _ => exact hrunning _
  | spacingTimerExpiry => exact hrunning _
  | tick _ => exact hrunning _
  | _ => exact hreleased _

/-- Settles O3: the reset values of the blocks with the latch kept, and the rows of a part held in reset. -/
theorem powerOnResetHoldsThePart : Obligations.PowerOnResetHoldsThePart :=
  ⟨fun s => ⟨_, rfl, rfl, s.resetBlocks_holdsResetValues .resetHeld s.strapPins s.strapLatch,
    s.resetBlocks_transmitter .resetHeld s.strapPins s.strapLatch, rfl⟩, exec_of_resetHeld⟩

/-- Settles O4: the clock lock and the tick by their rows; captures and timers are rows that wait for the clock. -/
theorem clockStartsTicksCapturesAndTimers : Obligations.ClockStartsTicksCapturesAndTimers := by
  intro s
  refine ⟨fun h => congrArg _ (if_pos h), fun straps h => congrArg _ (s.whenRunning_running _ h), fun h c hc => ?_⟩
  have hrunning (f : State → State) : (.next (s.whenRunning f) : Host.Outcome State Fault Refusal) = .next s :=
    congrArg _ (s.whenRunning_of_ne f h)
  rcases hc with ⟨e, rfl⟩ | ⟨l, ph, rfl⟩ | ⟨r, rfl⟩ | rfl | ⟨l, rfl⟩ | ⟨ch, rfl⟩ | rfl | ⟨straps, rfl⟩
  · exact hrunning _
  · exact hrunning _
  · exact hrunning _
  · exact hrunning _
  · exact hrunning _
  · exact hrunning _
  · exact hrunning _
  · exact hrunning _

/-! ## Stamps across a slew (R5, R15) -/

/-- The time of a record does not go backward where its rate is not negative. -/
theorem AnchorRecord.timeOf_mono (r : AnchorRecord) {x y : Nat} (hrate : 0 ≤ r.rate) (h : x ≤ y) :
    r.timeOf x ≤ r.timeOf y := by
  have hmul : ((x : Int) - r.effective) * r.rate ≤ ((y : Int) - r.effective) * r.rate :=
    mul_le_mul_of_nonneg_right (by omega) hrate
  exact Int.add_le_add_left (Int.ediv_le_ediv (by decide) hmul) _

/-- The time of a record at its own effective point. -/
theorem AnchorRecord.timeOf_effective (r : AnchorRecord) : r.timeOf r.effective = r.time := by
  simp [AnchorRecord.timeOf]

theorem stampOf_mono {a b : Int} (h : a ≤ b) (delay : Nat) : stampOf a delay ≤ stampOf b delay := by
  have hdiv := Int.ediv_le_ediv (c := Config.unitsPerStamp) (by decide) h
  rw [stampOf, stampOf]
  omega

/-- Conversion across a new record does not go backward, when the new record goes on from the old one's time. -/
theorem convert_mono (old new : AnchorRecord) {x y : Nat} (hold : 0 ≤ old.rate) (hnew : 0 ≤ new.rate)
    (hjoin : new.time = old.timeOf new.effective) (h : x ≤ y) : convert old new x ≤ convert old new y := by
  unfold convert recordFor
  by_cases hx : new.effective ≤ x
  · rw [if_pos hx, if_pos (hx.trans h)]
    exact new.timeOf_mono hnew h
  · rw [if_neg hx]
    by_cases hy : new.effective ≤ y
    · rw [if_pos hy]
      calc old.timeOf x ≤ old.timeOf new.effective := old.timeOf_mono hold (by omega)
        _ = new.timeOf new.effective := by rw [new.timeOf_effective, hjoin]
        _ ≤ new.timeOf y := new.timeOf_mono hnew hy
    · rw [if_neg hy]
      exact old.timeOf_mono hold h

theorem AnchorRecord.withinClamp_nonneg {r : AnchorRecord} (h : r.withinClamp) : 0 ≤ r.rate := by
  have := h.1
  omega

/-- Settles O6: the slew record goes on from the time of the current record at its effective point. -/
theorem slewKeepsStampsInOrder : Obligations.SlewKeepsStampsInOrder := by
  intro t d x y delay hclamp heffective hprevious hcurrent hxy
  have hjoin : d.slewRecord.time = t.current.timeOf d.slewRecord.effective := by
    rw [Discipline.slewRecord, hprevious, hcurrent, convert, recordFor]
    exact congrArg (AnchorRecord.timeOf · d.effectivePoint) (if_pos heffective)
  exact stampOf_mono (convert_mono t.current d.slewRecord (AnchorRecord.withinClamp_nonneg hclamp)
    (AnchorRecord.withinClamp_nonneg d.slewRecord_withinClamp) hjoin hxy) delay

/-! ## The completion of a discipline computation (R14, R18, R19) -/

theorem clampRate_figures (w : Int) : clampRate w = max 10735321088 (min w 10739515392) := by
  simp only [clampRate, Config.nominalRate, Config.rateSpan]
  rfl

theorem Discipline.frequency_figures (d : Discipline) :
    d.frequency = roundHalfUp (10 ^ 9 * 2 ^ 32 * 16) ((d.capture : Int) - d.previousCapture) := rfl

/-- The row of a computation that is due. -/
theorem exec_disciplineCompletion {s : State} {d : Discipline} (hclock : s.clock = .running)
    (hd : s.timeBase.discipline = some d) (hdue : d.capture / 16 < s.tick) :
    exec .disciplineCompletion s = .next (s.applyDiscipline d).settle := by
  rw [exec, execDisciplineCompletion, s.whenRunning_running _ hclock]
  simp only [hd, State.disciplineDue, decide_eq_true hdue, if_true]

theorem Discipline.slewRecord_figures (d : Discipline) : d.slewRecord =
    ⟨d.capture + 65536, convert d.previous d.current (d.capture + 65536),
      max 10735321088 (min (roundHalfUp (10 ^ 9 * 2 ^ 32 * 16) ((d.capture : Int) - d.previousCapture) -
        roundHalfAway (d.error * 16) (((d.capture : Int) - d.previousCapture) * 2 ^ d.slewGain)) 10739515392)⟩ := by
  rw [Discipline.slewRecord, clampRate_figures, d.frequency_figures]
  rfl

theorem Discipline.stepRecord_figures (d : Discipline) {rate : Int}
    (hrate : rate = max 10735321088
      (min (roundHalfUp (10 ^ 9 * 2 ^ 32 * 16) ((d.capture : Int) - d.previousCapture)) 10739515392)) :
    d.stepRecord = ⟨d.capture + 65536, d.labelTime + d.pulseDelay + 4096 * rate, rate⟩ := by
  rw [Discipline.stepRecord, clampRate_figures, d.frequency_figures, ← hrate]
  rfl

/-- The time base locks from ACQUIRING: the lock run is kept (R8, R18). -/
theorem State.enterTb_locked (s : State) (h : s.timeBase.state = .acquiring) : s.enterTb .locked =
    State.raise { s with timeBase := { s.timeBase with state := .locked, outlierRun := 0 } } 0 := by
  rw [State.enterTb, if_neg (by rw [h]; nofun), TimeBase.enter, if_pos ⟨h, rfl⟩, if_neg (by rw [h]; nofun)]
  rfl

/-- Settles O7: the slew record in figures, and the runs by the time base state. -/
theorem slewCompletes : Obligations.SlewCompletes := by
  intro s d hclock hd hdue hslews record slewed
  have hrecord : record = d.slewRecord := d.slewRecord_figures.symm
  have hslew : d.slews = true := decide_eq_true hslews
  have hslewed (run : Nat) : slewed run = s.timeBase.slewed d run := by
    simp only [slewed, hrecord]
    rfl
  rw [exec_disciplineCompletion hclock hd hdue]
  refine ⟨rfl, fun hstate => ?locked, fun hstate hfar => ?restart, fun hstate hnear hrun => ?grow,
    fun hstate hnear hrun => ?lock⟩
  case locked =>
    rw [hslewed, State.applyDiscipline, hstate]
    simp only [hslew, if_true]
    rfl
  all_goals
    rw [hslewed, State.applyDiscipline, hstate]
    simp only [hslew, if_true]
  case restart =>
    have hlimit : d.withinLockLimit = false := decide_eq_false (Nat.not_le.2 hfar)
    rw [State.slewAcquiring]
    simp only [hlimit, Bool.false_eq_true, if_false, false_and]
    rfl
  case grow =>
    have hlimit : d.withinLockLimit = true := decide_eq_true hnear
    rw [State.slewAcquiring]
    simp only [hlimit, if_true, true_and, if_neg (Nat.not_le.2 hrun)]
    rfl
  case lock =>
    have hlimit : d.withinLockLimit = true := decide_eq_true hnear
    rw [State.slewAcquiring]
    simp only [hlimit, if_true, true_and, if_pos hrun]
    exact congrArg (fun t : State => Host.Outcome.next t.settle)
      (State.enterTb_locked (s.setTimeBase (s.timeBase.slewed d (s.timeBase.lockRun + 1))) hstate)

/-- Settles O8: the step record in figures, and the outlier runs that put it off. -/
theorem stepOrOutlierCompletes : Obligations.StepOrOutlierCompletes := by
  intro s d hclock hd hdue habove rate stepped
  have hslew : d.slews = false := decide_eq_false (Nat.not_le.2 habove)
  have hstep : State.raise { s with timeBase := stepped } 1 = s.stepTime d := by
    rw [State.stepTime, d.stepRecord_figures rfl]
    rfl
  rw [exec_disciplineCompletion hclock hd hdue]
  refine ⟨fun hstate => ?acquiring, fun hstate hrun => ?outlier, fun hstate hrun => ?third⟩
  all_goals
    rw [State.applyDiscipline, hstate]
    simp only [hslew, Bool.false_eq_true, if_false]
  case acquiring => rw [hstep]
  case outlier =>
    rw [if_pos hrun]
    rfl
  case third =>
    rw [if_neg (Nat.not_lt.2 hrun), ← hstep]
    have hnot : ¬(State.raise { s with timeBase := stepped } 1).timeBase.state = .acquiring := by
      change ¬s.timeBase.state = .acquiring
      rw [hstate]
      nofun
    rw [State.enterTb, if_neg hnot, TimeBase.enter, if_neg (by simp), if_neg ?_]
    · rfl
    · change ¬s.timeBase.state = .holdover
      rw [hstate]
      nofun

/-! ## Holdover (R20) -/

theorem State.holdoverExpiryTick_of_limit (s : State) (hstate : s.timeBase.state = .holdover)
    (hexpired : s.timeBase.holdoverExpired = false) (hlimit : s.tables.timebase.holdoverLimit ≠ 0) :
    s.holdoverExpiryTick = some (s.timeBase.holdoverEntryTick + s.tables.timebase.holdoverLimit * 400000000) :=
  if_pos ⟨hstate, hlimit, hexpired⟩

/-- Settles O9: the expiry tick reached, or no expiry to come. -/
theorem holdoverExpires : Obligations.HoldoverExpires := by
  intro s hclock hstate hexpired
  rw [exec, execHoldoverExpiry, s.whenRunning_running _ hclock]
  refine ⟨fun hlimit hreached => ?_, fun hlimit => ?_⟩
  · have htick := s.holdoverExpiryTick_of_limit hstate hexpired hlimit
    simp only [State.expireHoldover, htick, if_pos hreached]
    rfl
  · have htick : s.holdoverExpiryTick = none := if_neg fun h => h.2.1 hlimit
    simp only [htick]

end Sys2Proof.Machine
end

section
/-! Feed lines (R41, R45 to R55): link changes, frame starts and completions, and the silence timer. -/

namespace Sys2Proof.Machine

/-- A line set to what it is leaves the state. -/
theorem State.setLine_self (s : State) (l : LineId) : s.setLine l s.lines[l] = s := by
  rw [State.setLine, vector_set_getElem]

theorem State.setLine_lines_self (s : State) (l : LineId) (f : FeedLine) : (s.setLine l f).lines[l] = f :=
  vector_getElem_set _ _ _

/-- Of two changes of one line the second stands. -/
theorem State.setLine_setLine (s : State) (l : LineId) (f g : FeedLine) : (s.setLine l f).setLine l g = s.setLine l g := by
  simp only [State.setLine, Vector.set_set]

/-! ## Silence (R54) -/

theorem FeedLine.startSilence_starts (f : FeedLine) {limit : Nat} (tick : Nat) (hup : f.link = .up) (hmode : f.mode ≠ .off)
    (hlimit : limit ≠ 0) : f.startSilence limit tick = { f with silenceStart := some tick, silent := false } :=
  if_pos ⟨hup, hmode, hlimit⟩

theorem FeedLine.startSilence_leaves (f : FeedLine) {limit : Nat} (tick : Nat)
    (h : f.link = .down ∨ f.mode = .off ∨ limit = 0) : f.startSilence limit tick = { f with silent := false } := by
  refine if_neg fun ⟨hup, hmode, hlimit⟩ => ?_
  rcases h with h | h | h
  · rw [h] at hup
    cases hup
  · exact hmode h
  · exact hlimit h

/-! ## Link changes (R41, R47) -/

theorem exec_feedLinkChange {s : State} (l : LineId) (link : LinkState) (h : s.clock ≠ .resetHeld) :
    exec (.feedLinkChange l link) s = .next (s.feedLink l link) :=
  congrArg _ (s.whenReleased_of_ne _ h)

/-- A report that changes the link state (R41). -/
theorem State.feedLink_of_ne (s : State) {l : LineId} {link : LinkState} (h : s.lines[l].link ≠ link) :
    s.feedLink l link = ((s.setLine l (s.lines[l].changeLink link s.tables.line[l].silenceLimit s.tick)).raise
      (sourceLinkChange l)).settle := if_neg h

/-- A line with a changed link state and the flap counted (R41). -/
def FeedLine.flapped (f : FeedLine) (link : LinkState) : FeedLine :=
  { f with link := link, counters := { f.counters with linkFlaps := satInc f.counters.linkFlaps } }

theorem FeedLine.changeLink_off (f : FeedLine) (link : LinkState) (limit tick : Nat) (h : f.mode = .off) :
    f.changeLink link limit tick = f.flapped link := if_pos h

theorem FeedLine.changeLink_down (f : FeedLine) (limit tick : Nat) (h : f.mode ≠ .off) :
    f.changeLink .down limit tick = (f.flapped .down).truncate.stopSilence := if_neg h

theorem FeedLine.changeLink_up (f : FeedLine) (limit tick : Nat) (h : f.mode ≠ .off) :
    f.changeLink .up limit tick = (f.flapped .up).startSilence limit tick := if_neg h

theorem FeedLine.truncate_of_none (f : FeedLine) (h : f.reception = none) : f.truncate = f := by
  simp only [FeedLine.truncate, h]

theorem FeedLine.truncate_of_some (f : FeedLine) (h : f.reception ≠ none) : f.truncate =
    { f with reception := none, counters := { f.counters with truncated := satInc f.counters.truncated } } := by
  obtain ⟨r, hr⟩ := Option.ne_none_iff_exists'.1 h
  simp only [FeedLine.truncate, hr]

/-- Settles O15: the report repeated, the line OFF, a change to DOWN with and without a reception, and a change to UP
with and without a limit. -/
theorem feedLinkChanges : Obligations.FeedLinkChanges := by
  intro s l hclock f flapped put
  have hchange (link : LinkState) (f' : FeedLine) (hne : f.link ≠ link)
      (hf : f.changeLink link s.tables.line[l].silenceLimit s.tick = f') :
      exec (.feedLinkChange l link) s = .next (put f') := by
    rw [exec_feedLinkChange l link hclock, s.feedLink_of_ne hne, hf]
    rfl
  refine ⟨?_, fun link hoff hne => hchange link _ (Ne.symm hne) (f.changeLink_off link _ _ hoff),
    fun hmode hup hidle => hchange .down _ (by rw [hup]; nofun) ?_,
    fun hmode hup hreception => hchange .down _ (by rw [hup]; nofun) ?_,
    fun hmode hdown hlimit => hchange .up _ (by rw [hdown]; nofun) ?_,
    fun hmode hdown hlimit => hchange .up _ (by rw [hdown]; nofun) ?_⟩
  · rw [exec_feedLinkChange l f.link hclock]
    exact congrArg _ (if_pos rfl)
  · rw [f.changeLink_down _ _ hmode, (f.flapped .down).truncate_of_none hidle]
    rfl
  · rw [f.changeLink_down _ _ hmode, (f.flapped .down).truncate_of_some hreception]
    rfl
  · rw [f.changeLink_up _ _ hmode, (f.flapped .up).startSilence_starts s.tick rfl hmode hlimit]
    rfl
  · rw [f.changeLink_up _ _ hmode, (f.flapped .up).startSilence_leaves s.tick (.inr (.inr hlimit))]
    rfl

/-! ## Frames (R45 to R52) -/

theorem exec_startOfFrame {s : State} (l : LineId) (ph : Phase) (h : s.clock = .running) :
    exec (.startOfFrame l ph) s = .next (s.setLine l (s.lines[l].startFrame (s.tick * 16 + ph.val))) :=
  congrArg _ (s.whenRunning_running _ h)

theorem exec_frameCompletion {s : State} (l : LineId) (bytes : List Byte) (receiveError : Bool)
    (h : s.clock ≠ .resetHeld) :
    exec (.frameCompletion l bytes receiveError) s = .next (s.completeFrame l bytes receiveError).settle :=
  congrArg _ (s.whenReleased_of_ne _ h)

/-- The trailing FCS of a frame is the one computed from the bytes before it. -/
theorem fcsMatches_iff (bytes : List Byte) :
    fcsMatches bytes = true ↔ bytes.drop (bytes.length - 4) = fcs (bytes.take (bytes.length - 4)) := beq_iff_eq

theorem checkFrame_runt {bytes : List Byte} (receiveError : Bool) (h : bytes.length < 64) :
    checkFrame bytes receiveError = .runt := if_pos h

theorem checkFrame_oversize {bytes : List Byte} (receiveError : Bool) (h : 2048 < bytes.length) :
    checkFrame bytes receiveError = .oversize := by
  rw [checkFrame, if_neg (by omega), if_pos h]

theorem checkFrame_fcsError {bytes : List Byte} {receiveError : Bool} (hlow : 64 ≤ bytes.length)
    (hhigh : bytes.length ≤ 2048)
    (h : receiveError = true ∨ bytes.drop (bytes.length - 4) ≠ fcs (bytes.take (bytes.length - 4))) :
    checkFrame bytes receiveError = .fcsError := by
  have herror : (receiveError || !fcsMatches bytes) = true := by
    rw [Bool.or_eq_true, Bool.not_eq_true', ← Bool.not_eq_true, fcsMatches_iff]
    exact h
  rw [checkFrame, if_neg (by omega), if_neg (by omega), if_pos herror]

theorem checkFrame_good {bytes : List Byte} (hlow : 64 ≤ bytes.length) (hhigh : bytes.length ≤ 2048)
    (h : bytes.drop (bytes.length - 4) = fcs (bytes.take (bytes.length - 4))) : checkFrame bytes false = .good := by
  have hfcs := (fcsMatches_iff bytes).2 h
  rw [checkFrame, if_neg (by omega), if_neg (by omega), if_neg (by simp [hfcs])]

/-- A frame that a check fails is counted by that check and dropped (R48). -/
theorem State.completeFrame_bad (s : State) {l : LineId} {bytes : List Byte} {receiveError : Bool} {capture : Nat}
    {check : FrameCheck} (hmode : s.lines[l].mode ≠ .off) (hreception : s.lines[l].reception = some ⟨capture, []⟩)
    (hcheck : checkFrame bytes receiveError = check) (hbad : check ≠ .good) :
    s.completeFrame l bytes receiveError =
      s.setLine l { s.lines[l] with reception := none, counters := s.lines[l].counters.countBad check } := by
  cases check with
  | good => exact absurd rfl hbad
  | _ => simp only [State.completeFrame, hreception, if_neg hmode, List.nil_append, hcheck]

theorem State.completeFrame_good (s : State) {l : LineId} {bytes : List Byte} {capture : Nat}
    (hmode : s.lines[l].mode ≠ .off) (hreception : s.lines[l].reception = some ⟨capture, []⟩)
    (hcheck : checkFrame bytes false = .good) : s.completeFrame l bytes false = s.goodFrame l capture bytes := by
  simp only [State.completeFrame, hreception, if_neg hmode, List.nil_append, hcheck]

/-- Settles O16: a start that is captured or not, and the three checks a frame can fail. -/
theorem framesAreCapturedAndChecked : Obligations.FramesAreCapturedAndChecked := by
  refine ⟨fun s l ph hclock => ⟨fun hmode hup hidle => ?_, fun hno => ?_⟩, ?_⟩
  · rw [exec_startOfFrame l ph hclock, FeedLine.startFrame, if_pos ⟨hmode, hup, hidle⟩]
    rfl
  · have hnot : ¬(s.lines[l].mode ≠ .off ∧ s.lines[l].link = .up ∧ s.lines[l].reception = none) := by
      rintro ⟨hmode, hup, -⟩
      rcases hno with h | h
      · exact hmode h
      · rw [h] at hup
        cases hup
    rw [exec_startOfFrame l ph hclock, FeedLine.startFrame, if_neg hnot, s.setLine_self]
  · intro s l bytes receiveError capture hclock hmode hreception f drop
    have hdropped (check : FrameCheck) (hcheck : checkFrame bytes receiveError = check) (hbad : check ≠ .good) :
        exec (.frameCompletion l bytes receiveError) s = .next (drop (f.counters.countBad check)) := by
      rw [exec_frameCompletion l bytes receiveError hclock, s.completeFrame_bad hmode hreception hcheck hbad]
      rfl
    exact ⟨fun hshort => hdropped .runt (checkFrame_runt _ hshort) nofun,
      fun hlong => hdropped .oversize (checkFrame_oversize _ hlong) nofun,
      fun hlow hhigh herror => hdropped .fcsError (checkFrame_fcsError hlow hhigh herror) nofun⟩

/-- The conversion event at a line that is UP and not OFF (R49, R54). -/
theorem FeedLine.arrive_eq (f : FeedLine) (a : Arrival) (limit tick : Nat) (hup : f.link = .up) (hmode : f.mode ≠ .off) :
    f.arrive a limit tick = { f with
      reception := none, lastArrival := a, silent := false
      silenceStart := if limit = 0 then f.silenceStart else some tick
      counters := { f.counters with goodFrames := satInc f.counters.goodFrames } } := by
  unfold FeedLine.arrive
  by_cases hlimit : limit = 0
  · rw [if_pos hlimit]
    exact FeedLine.startSilence_leaves _ tick (.inr (.inr hlimit))
  · rw [if_neg hlimit]
    exact FeedLine.startSilence_starts _ tick hup hmode hlimit

/-- Whether the buffers of a pair are empty does not depend on what else its lines hold. -/
theorem State.buffersEmpty_setLine (s : State) (l : LineId) (f : FeedLine) (p : PairId)
    (h : f.buffer = s.lines[l].buffer) : (s.setLine l f).buffersEmpty p = s.buffersEmpty p := by
  have hbuffer : ∀ k : LineId, (s.setLine l f).lines[k].buffer = s.lines[k].buffer :=
    forall_getElem_set (P := fun k (f : FeedLine) => f.buffer = s.lines[k].buffer) s.lines l f h fun _ => rfl
  simp only [State.buffersEmpty, hbuffer]

/-- The first record of a pair restarts its taking interval (R73). -/
theorem State.noteFirstRecord_pairs (s : State) (p : PairId) : s.noteFirstRecord p = { s with
    pairs := if s.buffersEmpty p then s.pairs.set p { s.pairs[p] with serviceTick := some s.tick } else s.pairs } := by
  unfold State.noteFirstRecord
  split <;> rfl

/-- A record in LIVE joins its line's buffer while there is room (R51). -/
theorem State.appendRecord_room (s : State) (l : LineId) (f : FeedLine) (r : FrameRecord) (hl : r.line = l)
    (hbuffer : f.buffer = s.lines[l].buffer) (hroom : f.buffer.length < 64) :
    (s.setLine l f).appendRecord r = { s with
      lines := s.lines.set l { f with buffer := f.buffer ++ [r] }
      pairs := if s.buffersEmpty (pairOf l) then
        s.pairs.set (pairOf l) { s.pairs[pairOf l] with serviceTick := some s.tick } else s.pairs } := by
  subst hl
  rw [State.appendRecord]
  simp only [s.setLine_lines_self, Config.lineBufferSize, if_pos hroom]
  rw [State.noteFirstRecord_pairs, s.buffersEmpty_setLine r.line f _ hbuffer]
  simp only [State.setLine, Vector.set_set]

/-- At a full buffer it is dropped, with OVERFLOW (R52). -/
theorem State.appendRecord_full (s : State) (l : LineId) (f : FeedLine) (r : FrameRecord) (hl : r.line = l)
    (hfull : 64 ≤ f.buffer.length) : (s.setLine l f).appendRecord r =
      (s.setLine l { f with counters := { f.counters with overflow := satInc f.counters.overflow } }).raise
        (sourceOverflow l) := by
  subst hl
  rw [State.appendRecord]
  simp only [s.setLine_lines_self, Config.lineBufferSize, if_neg (Nat.not_lt.2 hfull), s.setLine_setLine]

/-- Settles O17: the conversion event, then MONITOR, LIVE with room, and LIVE with a full buffer. -/
theorem goodFramesAreStamped : Obligations.GoodFramesAreStamped := by
  intro s l bytes capture hclock hup hmode hreception hlow hhigh hfcs f stamp stamped
  have harrived : f.arrive ⟨stamp, s.timeBase.quality⟩ s.tables.line[l].silenceLimit s.tick = stamped :=
    f.arrive_eq _ _ _ hup hmode
  have hgood : s.goodFrame l capture bytes = if f.mode = .live then
      (s.setLine l stamped).appendRecord ⟨bytes, l, capture, stamp, s.timeBase.quality⟩ else s.setLine l stamped := by
    unfold State.goodFrame
    dsimp only
    rw [harrived, s.setLine_lines_self]
  rw [exec_frameCompletion l bytes false hclock,
    s.completeFrame_good hmode hreception (checkFrame_good hlow hhigh hfcs), hgood]
  refine ⟨fun hmonitor => ?_, fun hlive hroom => ?_, fun hlive hfull => ?_⟩
  · rw [if_neg (by rw [hmonitor]; nofun)]
    rfl
  · rw [if_pos hlive, s.appendRecord_room l stamped _ rfl rfl hroom]
  · rw [if_pos hlive, s.appendRecord_full l stamped _ rfl hfull]
    rfl

/-! ## The silence timer (R54, R55) -/

/-- Settles O18: a running timer whose tick is reached, and a stopped one. -/
theorem silenceTimerExpires : Obligations.SilenceTimerExpires := by
  intro s l hclock
  rw [exec, execSilenceTimerExpiry, s.whenRunning_running _ hclock]
  refine ⟨fun t hstart hreached => ?_, fun hstopped => ?_⟩
  · have hexpiry : s.silenceExpiry l = some (t + s.tables.line[l].silenceLimit * 400000) := by
      rw [State.silenceExpiry, hstart]
      rfl
    simp only [State.expireSilence, hexpiry, if_pos hreached]
    rfl
  · have hexpiry : s.silenceExpiry l = none := by
      rw [State.silenceExpiry, hstopped]
      rfl
    simp only [hexpiry]

end Sys2Proof.Machine
end

section
/-! Reference inputs and selection (R24 to R39): the judging of pulses, the selector's table, the pulse timeout and the
label receiver. -/

namespace Sys2Proof.Machine

/-! ## What a pulse makes of a monitor (R28 to R32) -/

theorem Monitor.judges_iff (m : Monitor) (tolerance x : Nat) : m.judges tolerance x = true ↔
    ∃ label before, m.slot = some label ∧ m.refPoint.seconds = some before ∧ label.traceable = true ∧
      label.seconds = (before + 1) % 2 ^ 48 ∧
      ((x : Int) - m.refPoint.capture - 6400000000).natAbs ≤ 16 * tolerance := by
  unfold Monitor.judges
  split
  · rename_i label before hslot hbefore
    rw [hslot, hbefore, Bool.and_eq_true, Bool.and_eq_true, beq_iff_eq, decide_eq_true_eq, and_assoc]
    constructor
    · exact fun h => ⟨label, before, rfl, rfl, h⟩
    · rintro ⟨_, _, ⟨⟩, ⟨⟩, h⟩
      exact h
  · rename_i hnone
    refine iff_of_false nofun ?_
    rintro ⟨label, before, hslot, hbefore, -⟩
    exact hnone label before hslot hbefore

section
variable {m : Monitor} {entry : ReferenceEntry} {x : Nat}

theorem Monitor.pulse_absent_labelled (hm : m.state = .absent) (hslot : m.slot ≠ none) :
    m.pulse entry x = ({ m.takePulse x with state := .qualifying, qualifyCount := 0 }, .nothing) := by
  simp only [Monitor.pulse, hm, if_pos (Option.isSome_iff_ne_none.2 hslot)]

theorem Monitor.pulse_absent_bare (hm : m.state = .absent) (hslot : m.slot = none) :
    m.pulse entry x = ({ m with badPulses := satInc m.badPulses }, .nothing) := by
  simp only [Monitor.pulse, hm, hslot, Option.isSome_none, Bool.false_eq_true, if_false]

theorem Monitor.pulse_qualifying_bad (hm : m.state = .qualifying) (hj : m.judges entry.tolerance x = false) :
    m.pulse entry x = ({ m.takePulse x with badPulses := satInc m.badPulses, qualifyCount := 0 }, .nothing) := by
  simp only [Monitor.pulse, hm, hj, Bool.false_eq_true, if_false]

theorem Monitor.pulse_qualifying_counted (hm : m.state = .qualifying) (hj : m.judges entry.tolerance x = true)
    (hq : m.qualifyCount + 1 < entry.qualifyCount) : m.pulse entry x =
      ({ m.takePulse x with goodPulses := satInc m.goodPulses, qualifyCount := m.qualifyCount + 1 }, .nothing) := by
  simp only [Monitor.pulse, hm, hj, if_true, if_neg (Nat.not_le.2 hq)]

theorem Monitor.pulse_qualifying_last (hm : m.state = .qualifying) (hj : m.judges entry.tolerance x = true)
    (hq : entry.qualifyCount ≤ m.qualifyCount + 1) : m.pulse entry x =
      ({ m.takePulse x with state := .good, goodPulses := satInc m.goodPulses, qualifyCount := m.qualifyCount + 1 },
        .becameGood) := by
  simp only [Monitor.pulse, hm, hj, if_true, if_pos hq]

theorem Monitor.pulse_good_bad (hm : m.state = .good) (hj : m.judges entry.tolerance x = false) : m.pulse entry x =
    ({ m.takePulse x with badPulses := satInc m.badPulses, state := .qualifying, qualifyCount := 0 }, .leftGood) := by
  simp only [Monitor.pulse, hm, hj, Bool.false_eq_true, if_false]

theorem Monitor.pulse_good_good (hm : m.state = .good) (hj : m.judges entry.tolerance x = true) : m.pulse entry x =
    ({ m.takePulse x with goodPulses := satInc m.goodPulses },
      .accepted ⟨x, m.refPoint.capture, (m.slot.map (·.seconds)).getD 0⟩) := by
  simp only [Monitor.pulse, hm, hj, if_true]

end

/-- The pulse event of an enabled reference (R24). -/
theorem State.pulseOn_eq (s : State) (r : RefId) (ph : Phase) {m : Monitor} {e : SelectorEvent}
    (henabled : s.tables.reference[r].enabled = true)
    (h : s.monitors[r].pulse s.tables.reference[r] (s.tick * 16 + ph.val) = (m, e)) :
    s.pulseOn r ph = s.monitorEvent r m e := by
  have hnow : s.monitors[r].pulse s.tables.reference[r] (s.now + ph.val) = (m, e) := h
  simp only [State.pulseOn, henabled, if_true, hnow]

theorem State.pulseOn_disabled (s : State) (r : RefId) (ph : Phase) (h : s.tables.reference[r].enabled = false) :
    s.pulseOn r ph = s := by
  simp only [State.pulseOn, h, Bool.false_eq_true, if_false]

theorem exec_pulseEvent {s : State} (edges : PulseEdges) (h : s.clock = .running) :
    exec (.pulseEvent edges) s = .next (s.pulses edges).settle :=
  congrArg _ (s.whenRunning_running _ h)

theorem exec_pulseEvent_one {s : State} (r : RefId) (ph : Phase) {m : Monitor} {e : SelectorEvent} (h : s.clock = .running)
    (henabled : s.tables.reference[r].enabled = true)
    (hpulse : s.monitors[r].pulse s.tables.reference[r] (s.tick * 16 + ph.val) = (m, e)) :
    exec (.pulseEvent (.one r ph)) s = .next (s.monitorEvent r m e).settle := by
  rw [exec_pulseEvent _ h, State.pulses, s.pulseOn_eq r ph henabled hpulse]

/-! ## The selector (R36 to R38) -/

theorem State.monitorEvent_nothing (s : State) (r : RefId) (m : Monitor) :
    s.monitorEvent r m .nothing = s.setMonitor r m := rfl

theorem State.monitorEvent_becameGood (s : State) (r : RefId) (m : Monitor) :
    s.monitorEvent r m .becameGood = ((s.setMonitor r m).raise (sourceRefGood r)).selectorBecameGood r := rfl

theorem State.monitorEvent_leftGood (s : State) (r : RefId) (m : Monitor) :
    s.monitorEvent r m .leftGood = ((s.setMonitor r m).raise (sourceRefLost r)).selectorLeftGood r := rfl

theorem State.monitorEvent_accepted (s : State) (r : RefId) (m : Monitor) (p : AcceptedPulse) :
    s.monitorEvent r m (.accepted p) = (s.setMonitor r m).selectorAccepted r p := rfl

/-- A change of the time base to a state other than LOCKED starts both runs from 0 (R8). -/
theorem State.enterTb_eq (s : State) {target : TimeBaseState} (h : s.timeBase.state ≠ target) (hlocked : target ≠ .locked) :
    s.enterTb target = State.raise { s with timeBase := { s.timeBase with
      state := target, lockRun := 0, outlierRun := 0
      holdoverExpired := if s.timeBase.state = .holdover then false else s.timeBase.holdoverExpired } } 0 := by
  rw [State.enterTb, if_neg h, TimeBase.enter, if_neg fun hboth => hlocked hboth.2]
  rfl

theorem State.revertsTo_iff (s : State) (r : RefId) :
    s.revertsTo r = true ↔ s.tables.timebase.revertive = true ∧ s.tables.timebase.preferred = r := by
  simp only [State.revertsTo, Bool.and_eq_true, beq_iff_eq]

theorem State.selectorBecameGood_none (s : State) (r : RefId) (h : s.selected = none) :
    s.selectorBecameGood r = (s.setSelected (some r)).tbSelected := by
  simp only [State.selectorBecameGood, h]

theorem State.selectorBecameGood_kept (s : State) (r current : RefId) (h : s.selected = some current)
    (hreverts : ¬(s.tables.timebase.revertive = true ∧ s.tables.timebase.preferred = r)) :
    s.selectorBecameGood r = s := by
  simp only [State.selectorBecameGood, h, s.revertsTo_iff, hreverts, and_false, if_false]

theorem State.selectorBecameGood_reverts (s : State) (r current : RefId) (h : s.selected = some current)
    (hne : current ≠ r) (hreverts : s.tables.timebase.revertive = true ∧ s.tables.timebase.preferred = r) :
    s.selectorBecameGood r = s.switchTo r := by
  simp only [State.selectorBecameGood, h, if_pos (And.intro hne ((s.revertsTo_iff r).2 hreverts))]

theorem State.selectorAccepted_selected (s : State) (r : RefId) (p : AcceptedPulse) (h : s.selected = some r) :
    s.selectorAccepted r p = s.startDiscipline r p := by
  simp only [State.selectorAccepted, h, if_true]

theorem State.selectorAccepted_reverts (s : State) (r current : RefId) (p : AcceptedPulse) (h : s.selected = some current)
    (hne : current ≠ r) (hreverts : s.tables.timebase.revertive = true ∧ s.tables.timebase.preferred = r) :
    s.selectorAccepted r p = (s.switchTo r).startDiscipline r p := by
  simp only [State.selectorAccepted, h, if_neg hne, (s.revertsTo_iff r).2 hreverts, if_true]

theorem State.selectorAccepted_kept (s : State) (r : RefId) (p : AcceptedPulse) (h : s.selected ≠ some r)
    (hreverts : s.selected = none ∨ ¬(s.tables.timebase.revertive = true ∧ s.tables.timebase.preferred = r)) :
    s.selectorAccepted r p = s := by
  unfold State.selectorAccepted
  split
  · rfl
  · rename_i current hselected
    have hne : current ≠ r := fun heq => h (heq ▸ hselected)
    have hnot := hreverts.resolve_left (by rw [hselected]; nofun)
    rw [if_neg hne, if_neg (mt (s.revertsTo_iff r).1 hnot)]

/-- Settles O10: a good pulse by its four tests, then ABSENT and QUALIFYING, the last by what the selector makes of it. -/
theorem pulseQualifiesMonitor : Obligations.PulseQualifiesMonitor := by
  intro s r ph hclock henabled m x entry put taken
  have hnothing {m' : Monitor} (h : m.pulse entry x = (m', .nothing)) :
      exec (.pulseEvent (.one r ph)) s = .next (put m').settle := by
    rw [exec_pulseEvent_one r ph hclock henabled h, State.monitorEvent_nothing]
    rfl
  have hlast (hm : m.state = .qualifying) (hj : m.judges entry.tolerance x = true)
      (hq : entry.qualifyCount ≤ m.qualifyCount + 1) := exec_pulseEvent_one r ph hclock henabled
    (Monitor.pulse_qualifying_last hm hj hq)
  refine ⟨m.judges_iff entry.tolerance x, fun hm hslot => ?_, fun hm hslot => ?_, fun hm hj => ?_, fun hm hj hq => ?_,
    fun hm hj hq hselected hstate => ?_, fun current hm hj hq hselected hne => ⟨fun hreverts => ?_, fun hreverts => ?_⟩⟩
  · exact hnothing (Monitor.pulse_absent_labelled hm hslot)
  · exact hnothing (Monitor.pulse_absent_bare hm hslot)
  · exact hnothing (Monitor.pulse_qualifying_bad hm hj)
  · exact hnothing (Monitor.pulse_qualifying_counted hm hj hq)
  · rw [hlast hm hj hq, State.monitorEvent_becameGood,
      State.selectorBecameGood_none ((s.setMonitor r _).raise _) r hselected, State.tbSelected,
      State.enterTb_eq (((s.setMonitor r _).raise _).setSelected _) hstate (by nofun)]
    rfl
  · rw [hlast hm hj hq, State.monitorEvent_becameGood,
      State.selectorBecameGood_kept ((s.setMonitor r _).raise _) r current hselected hreverts]
    rfl
  · rw [hlast hm hj hq, State.monitorEvent_becameGood,
      State.selectorBecameGood_reverts ((s.setMonitor r _).raise _) r current hselected hne hreverts]
    rfl

/-- Settles O11: a GOOD monitor's good pulse by what the selector makes of it, and its bad pulse. -/
theorem pulseOfGoodMonitor : Obligations.PulseOfGoodMonitor := by
  intro s r ph hclock henabled hm m x entry taken good bad computation reverts
  have haccepted (hj : m.judges entry.tolerance x = true) := exec_pulseEvent_one r ph hclock henabled
    (Monitor.pulse_good_good hm hj)
  refine ⟨fun hj hselected label hslot => ?_, fun current label hj hselected hne hreverts hslot => ?_,
    fun hj hselected hkept => ?_, fun hj => ?_⟩
  · have hseconds : (s.monitors[r].slot.map (·.seconds)).getD 0 = label.seconds := by
      rw [show s.monitors[r].slot = some label from hslot]
      rfl
    rw [haccepted hj, hseconds, State.monitorEvent_accepted, State.selectorAccepted_selected (s.setMonitor r _) r _ hselected]
    rfl
  · have hseconds : (s.monitors[r].slot.map (·.seconds)).getD 0 = label.seconds := by
      rw [show s.monitors[r].slot = some label from hslot]
      rfl
    rw [haccepted hj, hseconds, State.monitorEvent_accepted,
      State.selectorAccepted_reverts (s.setMonitor r _) r current _ hselected hne hreverts]
    rfl
  · rw [haccepted hj, State.monitorEvent_accepted, State.selectorAccepted_kept (s.setMonitor r _) r _ hselected hkept]
    rfl
  · rw [exec_pulseEvent_one r ph hclock henabled (Monitor.pulse_good_bad hm hj), State.monitorEvent_leftGood]
    rfl

theorem State.selectorLeftGood_unselected (s : State) (r : RefId) (h : s.selected ≠ some r) : s.selectorLeftGood r = s :=
  if_neg h

theorem State.selectorLeftGood_switch (s : State) (r : RefId) (h : s.selected = some r)
    (hother : s.monitors[otherRef r].state = .good) : s.selectorLeftGood r = s.switchTo (otherRef r) := by
  rw [State.selectorLeftGood, if_pos h, if_pos hother]

theorem State.selectorLeftGood_none (s : State) (r : RefId) (h : s.selected = some r)
    (hother : s.monitors[otherRef r].state ≠ .good) :
    s.selectorLeftGood r = ((s.setSelected none).abandonDiscipline).tbUnselected := by
  rw [State.selectorLeftGood, if_pos h, if_neg hother]

/-- R10: LOCKED goes to HOLDOVER, noting the tick. -/
theorem State.tbUnselected_locked (s : State) (h : s.timeBase.state = .locked) :
    s.tbUnselected = State.raise { s with timeBase := { s.timeBase with
      state := .holdover, holdoverEntryTick := s.tick, lockRun := 0, outlierRun := 0 } } 0 := by
  have hentered := (s.setTimeBase { s.timeBase with holdoverEntryTick := s.tick }).enterTb_eq (target := .holdover)
    (by change s.timeBase.state ≠ .holdover; rw [h]; nofun) nofun
  have hexpired : ¬(s.setTimeBase { s.timeBase with holdoverEntryTick := s.tick }).timeBase.state = .holdover := by
    change ¬s.timeBase.state = .holdover
    rw [h]
    nofun
  rw [if_neg hexpired] at hentered
  unfold State.tbUnselected
  split
  · exact hentered
  · rename_i hother
    rw [h] at hother
    cases hother
  · rename_i hlocked _
    exact absurd h hlocked

/-- R10: ACQUIRING goes to FREE. -/
theorem State.tbUnselected_acquiring (s : State) (h : s.timeBase.state = .acquiring) :
    s.tbUnselected = State.raise { s with timeBase := { s.timeBase with
      state := .free, lockRun := 0, outlierRun := 0 } } 0 := by
  have hentered := s.enterTb_eq (target := .free) (by rw [h]; nofun) nofun
  rw [if_neg (by rw [h]; nofun)] at hentered
  simp only [State.tbUnselected, h]
  exact hentered

/-- Settles O12: the loss of a reference by the selector's table, the revertive switches, and the pair of edges. -/
theorem selectorActsByItsTable : Obligations.SelectorActsByItsTable := by
  refine ⟨fun s r => ⟨s.selectorLeftGood_unselected r, fun hselected hother => ?_, fun hselected hother hlocked => ?_,
    fun hselected hother hacquiring => ?_⟩, fun s r => ⟨fun current hselected hne hrevertive hpreferred => ⟨?_, fun p => ?_⟩,
    fun current hselected hne hkept => ⟨?_, fun p => ?_⟩, fun ph hclock hdisabled => ?_, fun ph0 ph1 hclock hpreferred => ?_⟩⟩
  · exact s.selectorLeftGood_switch r hselected hother
  · rw [s.selectorLeftGood_none r hselected hother, State.tbUnselected_locked ((s.setSelected none).abandonDiscipline) hlocked]
    rfl
  · rw [s.selectorLeftGood_none r hselected hother, State.tbUnselected_acquiring ((s.setSelected none).abandonDiscipline) hacquiring]
    rfl
  · exact s.selectorBecameGood_reverts r current hselected hne ⟨hrevertive, hpreferred⟩
  · exact s.selectorAccepted_reverts r current p hselected hne ⟨hrevertive, hpreferred⟩
  · exact s.selectorBecameGood_kept r current hselected fun ⟨hrevertive, hpreferred⟩ =>
      hkept.elim (fun h => by rw [h] at hrevertive; cases hrevertive) fun h => h hpreferred
  · refine s.selectorAccepted_kept r p (by rw [hselected]; exact fun h => hne (Option.some.inj h)) (.inr ?_)
    exact fun ⟨hrevertive, hpreferred⟩ =>
      hkept.elim (fun h => by rw [h] at hrevertive; cases hrevertive) fun h => h hpreferred
  · rw [exec_pulseEvent _ hclock, State.pulses, s.pulseOn_disabled r ph hdisabled]
  · rw [exec_pulseEvent _ hclock, State.pulses, hpreferred]
    rcases ref_cases 0 r with rfl | rfl <;> rfl

/-! ## The pulse timeout (R33) -/

theorem State.pulseExpiry_of_present (s : State) (r : RefId) (h : s.monitors[r].state ≠ .absent) :
    s.pulseExpiry r = some (s.monitors[r].refPoint.capture / 16 + 400000000 + s.tables.reference[r].tolerance + 1) :=
  if_neg h

theorem State.pulseExpiry_of_absent (s : State) (r : RefId) (h : s.monitors[r].state = .absent) :
    s.pulseExpiry r = none := if_pos h

/-- A pulse timeout that is reached (R33). -/
theorem State.expirePulse_reached (s : State) (r : RefId) (h : s.monitors[r].state ≠ .absent)
    (hreached : s.monitors[r].refPoint.capture / 16 + 400000000 + s.tables.reference[r].tolerance + 1 ≤ s.tick) :
    s.expirePulse r = s.monitorEvent r { s.monitors[r].toAbsent with misses := satInc s.monitors[r].misses }
      s.monitors[r].state.lossEvent := by
  simp only [State.expirePulse, s.pulseExpiry_of_present r h, if_pos hreached]

/-- A pulse timeout that is not running or not reached (R33). -/
theorem State.expirePulse_not_reached (s : State) (r : RefId) (h : s.monitors[r].state = .absent ∨
    s.tick < s.monitors[r].refPoint.capture / 16 + 400000000 + s.tables.reference[r].tolerance + 1) :
    s.expirePulse r = s := by
  by_cases habsent : s.monitors[r].state = .absent
  · simp only [State.expirePulse, s.pulseExpiry_of_absent r habsent]
  · simp only [State.expirePulse, s.pulseExpiry_of_present r habsent, if_neg (Nat.not_le.2 (h.resolve_left habsent))]

/-- Settles O13: a timeout that is reached, by the monitor's state. -/
theorem pulseTimeoutExpires : Obligations.PulseTimeoutExpires := by
  intro s r hclock hreached m after
  have hexpires (h : m.state ≠ .absent) : exec (.pulseTimeoutExpiry r) s = .next (s.monitorEvent r
      { m.toAbsent with misses := satInc m.misses } m.state.lossEvent).settle := by
    rw [exec, execPulseTimeoutExpiry, s.whenRunning_running _ hclock]
    simp only [s.pulseExpiry_of_present r h, if_pos hreached, s.expirePulse_reached r h hreached]
    rfl
  refine ⟨fun hm => ?_, fun hm => ?_, fun hm => ?_⟩
  · rw [hexpires (by rw [hm]; nofun), hm]
    rfl
  · rw [hexpires (by rw [hm]; nofun), hm]
    rfl
  · rw [exec, execPulseTimeoutExpiry, s.whenRunning_running _ hclock]
    simp only [s.pulseExpiry_of_absent r hm]

/-! ## The label receiver (R25 to R27) -/

theorem exec_labelByteReceived {s : State} (r : RefId) (b : Byte) (e : Bool) (h : s.clock ≠ .resetHeld) :
    exec (.labelByteReceived r b e) s = .next (s.setMonitor r (s.monitors[r].labelByte b e)) :=
  congrArg _ (s.whenReleased_of_ne _ h)

theorem exec_labelMessageCompletion {s : State} (r : RefId) (b : Byte) (h : s.clock ≠ .resetHeld) :
    exec (.labelMessageCompletion r b) s = .next
      (if s.monitors[r].receiver.awaitsLast then s.setMonitor r (s.monitors[r].labelByte b false) else s) :=
  congrArg _ (s.whenReleased_of_ne _ h)

theorem exec_labelFramingError {s : State} (r : RefId) (h : s.clock ≠ .resetHeld) :
    exec (.labelFramingError r) s = .next
      (if s.monitors[r].receiver.isCollecting then s.setMonitor r (s.monitors[r].labelByte 0 true) else s) :=
  congrArg _ (s.whenReleased_of_ne _ h)

theorem State.setMonitor_self (s : State) (r : RefId) : s.setMonitor r s.monitors[r] = s := by
  rw [State.setMonitor, vector_set_getElem]

section
variable {m : Monitor} {kept : List Byte} {b : Byte}

theorem Monitor.labelByte_stopped (h : m.receiver = .stopped) (e : Bool) : m.labelByte b e = m := by
  simp only [Monitor.labelByte, h]

theorem Monitor.labelByte_start (h : m.receiver = .hunting) (hb : b = 0x7E) :
    m.labelByte b false = { m with receiver := .collecting [b] } := by
  simp only [Monitor.labelByte, h, hb, and_self, if_true]

theorem Monitor.labelByte_hunting {e : Bool} (h : m.receiver = .hunting) (hb : b ≠ 0x7E ∨ e = true) :
    m.labelByte b e = m := by
  have hnot : ¬(b = 0x7E ∧ e = false) := fun ⟨hstart, hclean⟩ =>
    hb.elim (· hstart) fun herror => by rw [herror] at hclean; cases hclean
  simp only [Monitor.labelByte, h, if_neg hnot]

theorem Monitor.labelByte_error (h : m.receiver = .collecting kept) :
    m.labelByte b true = { m with receiver := .hunting, badLabels := satInc m.badLabels } := by
  simp only [Monitor.labelByte, h, if_true]

theorem Monitor.labelByte_kept (h : m.receiver = .collecting kept) (hlen : kept.length < 10) :
    m.labelByte b false = { m with receiver := .collecting (kept ++ [b]) } := by
  simp only [Monitor.labelByte, h, Bool.false_eq_true, if_false, if_neg (Nat.not_le.2 hlen)]

theorem Monitor.labelByte_last (h : m.receiver = .collecting kept) (hlen : kept.length = 10) :
    m.labelByte b false = m.completeLabel (kept ++ [b]) := by
  simp only [Monitor.labelByte, h, Bool.false_eq_true, if_false, if_pos hlen.ge]

end

/-- The last byte of a message stands at offset 10. -/
theorem numAt_last (kept : List Byte) (b : Byte) (h : kept.length = 10) : numAt (kept ++ [b]) 10 1 = b.toNat := by
  rw [numAt, slice, ← h, List.drop_left]
  simp [bigEndian]

/-- A collected message is valid by its start mark, its check sum and its last byte (R26). -/
theorem labelValid_iff (kept : List Byte) (b : Byte) (h : kept.length = 10) : labelValid (kept ++ [b]) = true ↔
    numAt (kept ++ [b]) 1 1 = 0x53 ∧
      numAt (kept ++ [b]) 9 1 = (((kept ++ [b]).drop 1).take 8).foldl (fun a x => a + x.toNat) 0 % 256 ∧ b = 0x0D := by
  have hb : b.toNat = 0x0D ↔ b = 0x0D := BitVec.toNat_inj (y := 0x0D#8)
  simp only [labelValid, numAt_last kept b h, Bool.and_eq_true, beq_iff_eq, hb, slice]
  tauto

/-- Settles O14: hunting, collecting, the framing error, byte 10 valid or not, and the stopped receiver. -/
theorem labelReceiverCollectsAndChecks : Obligations.LabelReceiverCollectsAndChecks := by
  intro s r hclock m put
  have hbyte (b : Byte) (e : Bool) {m' : Monitor} (h : m.labelByte b e = m') :
      exec (.labelByteReceived r b e) s = .next (put m') := by
    rw [exec_labelByteReceived r b e hclock, h]
    rfl
  have hsame : put m = s := s.setMonitor_self r
  refine ⟨fun b hhunt hb => ?_, fun b e hhunt hb => ?_, fun kept b hcollect hlen => ?_, fun kept hcollect => ?_,
    fun kept b hcollect hlen => ?_, fun hstopped b e => ?_⟩
  · exact hbyte b false (Monitor.labelByte_start hhunt hb)
  · rw [hbyte b e (Monitor.labelByte_hunting hhunt hb), hsame]
  · exact hbyte b false (Monitor.labelByte_kept hcollect hlen)
  · have hcollecting : s.monitors[r].receiver.isCollecting = true := by
      rw [show s.monitors[r].receiver = .collecting kept from hcollect]
      rfl
    have hframing : exec (.labelFramingError r) s =
        .next (put { m with receiver := .hunting, badLabels := satInc m.badLabels }) := by
      rw [exec_labelFramingError r hclock, if_pos hcollecting, Monitor.labelByte_error hcollect]
      rfl
    exact ⟨hframing, fun b => (hbyte b true (Monitor.labelByte_error hcollect)).trans hframing.symm⟩
  · have hawaits : s.monitors[r].receiver.awaitsLast = true := by
      rw [show s.monitors[r].receiver = .collecting kept from hcollect]
      exact decide_eq_true hlen.ge
    have hcompleted : exec (.labelMessageCompletion r b) s = .next (put (m.completeLabel (kept ++ [b]))) := by
      rw [exec_labelMessageCompletion r b hclock, if_pos hawaits, Monitor.labelByte_last hcollect hlen]
      rfl
    refine ⟨fun hvalid => ?_, fun hinvalid => ?_, ?_⟩
    · rw [hcompleted, Monitor.completeLabel, if_pos ((labelValid_iff kept b hlen).2 hvalid)]
      rfl
    · rw [hcompleted, Monitor.completeLabel, if_neg (mt (labelValid_iff kept b hlen).1 hinvalid)]
      rfl
    · exact (hbyte b false (Monitor.labelByte_last hcollect hlen)).trans hcompleted.symm
  · have hreceiver : s.monitors[r].receiver = .stopped := hstopped
    refine ⟨?_, ?_, ?_⟩
    · rw [hbyte b e (Monitor.labelByte_stopped hstopped e), hsame]
    · rw [exec_labelMessageCompletion r b hclock, hreceiver]
      rfl
    · rw [exec_labelFramingError r hclock, hreceiver]
      rfl

end Sys2Proof.Machine
end

section
/-! Pair arbiters: the taking (R73, R74) and the classifier (R61 to R64). -/

namespace Sys2Proof.Machine

/-! ## Taking (R73, R74) -/

theorem exec_takingEvent {s : State} (p : PairId) (h : s.clock ≠ .resetHeld) :
    exec (.takingEvent p) s = .next (if s.takingDue p then s.take p else s) :=
  congrArg _ (s.whenReleased_of_ne _ h)

/-- The line of the earlier head, the A side's between equals (R73). -/
theorem State.takingLine_of_earlier (s : State) (p : PairId) (l : LineId) (r : FrameRecord) (rest : List FrameRecord)
    (hbuffer : s.lines[l].buffer = r :: rest)
    (hearlier : (l = sideA p ∧ ∀ b ∈ s.lines[sideB p].buffer.head?, r.capture ≤ b.capture) ∨
      (l = sideB p ∧ ∀ a ∈ s.lines[sideA p].buffer.head?, r.capture < a.capture)) : s.takingLine p = some l := by
  rcases hearlier with ⟨rfl, hb⟩ | ⟨rfl, ha⟩
  · cases hB : s.lines[sideB p].buffer with
    | nil => simp only [State.takingLine, hbuffer, hB]
    | cons b others =>
      have hle := hb b (by rw [hB]; rfl)
      simp only [State.takingLine, hbuffer, hB, if_pos hle]
  · cases hA : s.lines[sideA p].buffer with
    | nil => simp only [State.takingLine, hbuffer, hA]
    | cons a others =>
      have hlt := ha a (by rw [hA]; rfl)
      simp only [State.takingLine, hbuffer, hA, if_neg (Nat.not_le.2 hlt)]

/-- Settles O19: the record of the earlier head leaves its buffer and is handled; with no record nothing is taken. -/
theorem takingTakesTheEarlierHead : Obligations.TakingTakesTheEarlierHead := by
  intro s p
  refine ⟨fun l r rest ⟨hclock, hdue, hbuffer, hearlier⟩ => ?_, fun hclock hA hB => ?_⟩
  · have hdue : s.takingDue p = true := by
      unfold State.takingDue
      split
      · rfl
      · exact decide_eq_true (hdue _ ‹_›)
    rw [exec_takingEvent p hclock, if_pos hdue]
    simp only [State.take, s.takingLine_of_earlier p l r rest hbuffer hearlier, hbuffer]
    rfl
  · have hnone : s.takingLine p = none := by simp only [State.takingLine, hA, hB]
    rw [exec_takingEvent p hclock]
    simp only [State.take, hnone, ite_self]

/-! ## The classifier (R61 to R64) -/

/-- A frame is decodable when every field of the profile lies within it (R62). -/
theorem ProfileEntry.decodes_iff (e : ProfileEntry) (bytes : List Byte) : e.decodes bytes = true ↔
    e.keyOffset1 + 4 + 4 ≤ bytes.length ∧ e.keyOffset2 + 2 + 4 ≤ bytes.length ∧
      e.sequenceOffset + e.sequenceWidth + 4 ≤ bytes.length ∧
      (e.countWidth = 0 ∨ e.countOffset + e.countWidth + 4 ≤ bytes.length) := by
  simp [ProfileEntry.decodes, fieldWithin, and_assoc]

/-- The key search answers the one channel of the pair that has the key (R60, R63, R69). -/
theorem Tables.findChannel_of_key {t : Tables} {p : PairId} {key : ChannelKey} {c : ChannelId}
    (hkeys : ∀ c c' : ChannelId, t.channel[c].enabled = true → t.channel[c'].enabled = true →
      t.channel[c].pair = t.channel[c'].pair → t.channel[c].key = t.channel[c'].key → c = c')
    (henabled : t.channel[c].enabled = true) (hpair : t.channel[c].pair = p) (hkey : t.channel[c].key = key) :
    t.findChannel p key = some c := by
  have hmatches (d : ChannelId) : (t.channel[d].belongsTo p && t.channel[d].key == key) = true ↔
      t.channel[d].enabled = true ∧ t.channel[d].pair = p ∧ t.channel[d].key = key := by
    simp [-Fin.getElem_fin, ChannelEntry.belongsTo, and_assoc]
  rcases Option.eq_none_or_eq_some (t.findChannel p key) with hnone | ⟨d, hd⟩
  · exact absurd ((hmatches c).2 ⟨henabled, hpair, hkey⟩) (List.find?_eq_none.1 hnone c (List.mem_finRange c))
  · have hfound := List.find?_some hd
    obtain ⟨hdenabled, hdpair, hdkey⟩ := (hmatches d).1 hfound
    rw [hd, hkeys d c hdenabled henabled (hdpair.trans hpair.symm) (hdkey.trans hkey.symm)]

theorem Tables.findChannel_of_no_key {t : Tables} {p : PairId} {key : ChannelKey}
    (h : ∀ c : ChannelId, t.channel[c].enabled = true → t.channel[c].pair = p → t.channel[c].key ≠ key) :
    t.findChannel p key = none := by
  refine List.find?_eq_none.2 fun c _ hc => ?_
  rw [Bool.and_eq_true, beq_iff_eq] at hc
  obtain ⟨henabled, hpair⟩ := ChannelEntry.enabled_of_belongsTo hc.1
  exact h c henabled hpair hc.2

theorem Tables.classify_of_found {t : Tables} {p : PairId} {bytes : List Byte} {c : ChannelId}
    (hdec : t.profile[p].decodes bytes = true) (h : t.findChannel p (t.profile[p].keyOf bytes) = some c) :
    t.classify p bytes = .listed c (t.profile[p].sequenceOf bytes) (t.profile[p].countOf bytes) := by
  simp only [Tables.classify, hdec, if_true, h]

theorem Tables.classify_of_not_found {t : Tables} {p : PairId} {bytes : List Byte}
    (hdec : t.profile[p].decodes bytes = true) (h : t.findChannel p (t.profile[p].keyOf bytes) = none) :
    t.classify p bytes = .unlisted := by
  simp only [Tables.classify, hdec, if_true, h]

/-- Settles O20: the fields by the profile, the channel by its key, which only one channel of the pair has. -/
theorem classifierFindsTheChannel : Obligations.ClassifierFindsTheChannel := by
  intro s p bytes ⟨_, _, _, hkeys, _⟩ e key within decodable number
  have hdecodes : e.decodes bytes = true ↔ decodable := e.decodes_iff bytes
  refine ⟨fun hnot => if_neg (mt hdecodes.1 hnot), fun hdec c henabled hpair hkey => ?_, fun hdec hnone => ?_⟩
  · exact Tables.classify_of_found (hdecodes.2 hdec) (Tables.findChannel_of_key hkeys henabled hpair hkey)
  · exact Tables.classify_of_not_found (hdecodes.2 hdec) (Tables.findChannel_of_no_key hnone)

end Sys2Proof.Machine
end

section
/-! The release loop and the expiries (R92, R103 to R105, R110 to R113), and the cases of the table that look behind X
(R79 to R81) or at heartbeats (R86, R87). -/

namespace Sys2Proof.Machine

/-! ## The release loop (R92) -/

section
variable {s : State} {p : PairId} {c : ChannelId} {f : ListedFrame}

/-- With no frame of the channel held the loop closes the channel. -/
theorem State.release_of_none (h : lowestHeld s.pairs[p].pool c = none) :
    s.release p c = s.setSequence c s.channels[c].sequence.close := by
  simp only [State.release, State.releaseLoop, h]

/-- A superseded lowest frame leaves, and the loop goes on. -/
theorem State.release_superseded (h : lowestHeld s.pairs[p].pool c = some f)
    (hend : offset (s.width p) f.s (s.expectedOf c) + f.n ≤ 0) : s.release p c = (s.supersede p c).release p c := by
  have hremoved := removeLowest_length h
  have hpool : (s.supersede p c).pairs[p].pool = removeLowest s.pairs[p].pool c :=
    congrArg PairArbiter.pool (vector_getElem_set _ _ _)
  rw [State.release, State.release, hpool, hremoved]
  simp only [State.releaseLoop, h, if_pos hend]

/-- A lowest frame that X has reached is delivered, and the loop goes on. -/
theorem State.release_reached (h : lowestHeld s.pairs[p].pool c = some f)
    (hend : 0 < offset (s.width p) f.s (s.expectedOf c) + f.n) (hstart : offset (s.width p) f.s (s.expectedOf c) ≤ 0) :
    s.release p c = (s.releaseFrame p f (offset (s.width p) f.s (s.expectedOf c))).release p c := by
  have hremoved := removeLowest_length h
  obtain ⟨-, hchannel⟩ := lowestHeld_some h
  rw [State.release, State.release, s.releaseFrame_pool, hchannel, hremoved]
  simp only [State.releaseLoop, h, if_neg (Int.not_le.2 hend), if_pos hstart]

/-- A lowest frame beyond X stops the loop. -/
theorem State.release_ahead (h : lowestHeld s.pairs[p].pool c = some f)
    (hstart : 0 < offset (s.width p) f.s (s.expectedOf c)) : s.release p c = s := by
  simp only [State.release, State.releaseLoop, h]
  rw [if_neg (by omega), if_neg (by omega)]

end

/-- A released channel is left with no frame held and not GAP_OPEN, or with a lowest frame beyond X; and it is UNSEEN
only if it was. -/
def State.Released (s : State) (p : PairId) (c : ChannelId) : Prop :=
  (lowestHeld s.pairs[p].pool c = none ∧ ∀ x e, s.channels[c].sequence ≠ .gapOpen x e) ∨
    ∃ f, lowestHeld s.pairs[p].pool c = some f ∧ 0 < offset (s.width p) f.s (s.expectedOf c)

theorem SequenceState.close_ne_unseen {q : SequenceState} (h : q ≠ .unseen) : q.close ≠ .unseen := by
  cases q with
  | unseen => exact absurd rfl h
  | inStep x => nofun
  | gapOpen x e => nofun

theorem State.setSequence_sequence (s : State) (c : ChannelId) (q : SequenceState) :
    (s.setSequence c q).channels[c].sequence = q :=
  congrArg Channel.sequence (vector_getElem_set _ _ _)

theorem State.releaseLoop_released (p : PairId) (c : ChannelId) (turns : Nat) : ∀ s : State,
    s.pairs[p].pool.length < turns → (s.releaseLoop turns p c).Released p c ∧
      (s.channels[c].sequence ≠ .unseen → (s.releaseLoop turns p c).channels[c].sequence ≠ .unseen) := by
  induction turns with
  | zero => exact fun s h => absurd h (Nat.not_lt_zero _)
  | succ turns ih =>
    intro s hlt
    rcases s.releaseLoop_succ turns p c with ⟨hnone, e⟩ | ⟨f, hf, ⟨-, e⟩ | ⟨-, -, e⟩ | ⟨hahead, e⟩⟩ <;> rw [e]
    · have hclosed := s.setSequence_sequence c s.channels[c].sequence.close
      refine ⟨.inl ⟨hnone, fun x e => ?_⟩, fun hseen => ?_⟩ <;> rw [hclosed]
      · exact SequenceState.close_not_gapOpen _ x e
      · exact SequenceState.close_ne_unseen hseen
    · have hremoved := removeLowest_length hf
      have hpool : (s.supersede p c).pairs[p].pool = removeLowest s.pairs[p].pool c :=
        congrArg PairArbiter.pool (vector_getElem_set _ _ _)
      exact ih (s.supersede p c) (by rw [hpool]; omega)
    · have hremoved := removeLowest_length hf
      obtain ⟨-, rfl⟩ := lowestHeld_some hf
      obtain ⟨hreleased, hseen⟩ := ih (s.releaseFrame p f (offset (s.width p) f.s (s.expectedOf f.channel)))
        (by rw [s.releaseFrame_pool]; omega)
      exact ⟨hreleased, fun _ => hseen (State.setExpected_ne_unseen _ _ _)⟩
    · exact ⟨.inr ⟨f, hf, hahead⟩, id⟩

theorem State.release_released (s : State) (p : PairId) (c : ChannelId) : (s.release p c).Released p c :=
  (s.releaseLoop_released p c _ (Nat.lt_succ_self _)).1

theorem State.release_ne_unseen {s : State} {c : ChannelId} (p : PairId) (h : s.channels[c].sequence ≠ .unseen) :
    (s.release p c).channels[c].sequence ≠ .unseen :=
  (s.releaseLoop_released p c _ (Nat.lt_succ_self _)).2 h

/-! ## Expiry steps and drains (R103, R113, R115) -/

theorem State.drain_of_none (s : State) (p : PairId) (c : ChannelId) (h : lowestHeld s.pairs[p].pool c = none) :
    s.drain p c = s := by
  rw [State.drain]
  cases s.pairs[p].pool.length with
  | zero => rfl
  | succ k => simp only [State.drainLoop, h, Option.isSome_none, Bool.false_eq_true, if_false]

/-- A drain begins with an expiry step while a frame is held. -/
theorem State.drain_of_some (s : State) (p : PairId) (c : ChannelId) {f : ListedFrame}
    (h : lowestHeld s.pairs[p].pool c = some f) : s.drain p c = (s.expiryStep p c).drain p c := by
  have hshorter := s.expiryStep_length p c f h
  obtain ⟨k, hk⟩ := Nat.exists_eq_succ_of_ne_zero (Nat.ne_of_gt (Nat.zero_lt_of_lt hshorter))
  rw [State.drain, State.drain, hk]
  simp only [State.drainLoop, h, Option.isSome_some, if_true]
  exact State.drainLoop_turns _ _ _ p c (by omega) (Nat.le_refl _)

/-- An expiry step of a channel with a held frame ends released, and not UNSEEN. -/
theorem State.expiryStep_released (s : State) (p : PairId) (c : ChannelId) {f : ListedFrame}
    (h : lowestHeld s.pairs[p].pool c = some f) :
    (s.expiryStep p c).Released p c ∧ (s.expiryStep p c).channels[c].sequence ≠ .unseen := by
  obtain ⟨y, e, -, -, hseen, -⟩ := s.expiryStep_eq p c f h
  rw [e]
  exact ⟨y.release_released p c, y.release_ne_unseen p hseen⟩

/-- A drained channel is IN_STEP, when it was seen, and GAP_OPEN only with a frame held. -/
theorem State.drainLoop_inStep (p : PairId) (c : ChannelId) (turns : Nat) : ∀ s : State,
    s.pairs[p].pool.length ≤ turns → s.channels[c].sequence ≠ .unseen →
    (lowestHeld s.pairs[p].pool c = none → ∀ x e, s.channels[c].sequence ≠ .gapOpen x e) →
    ∃ y, (s.drainLoop turns p c).channels[c].sequence = .inStep y := by
  have closed (q : SequenceState) (hseen : q ≠ .unseen) (hgap : ∀ x e, q ≠ .gapOpen x e) : ∃ y, q = .inStep y := by
    cases q with
    | unseen => exact absurd rfl hseen
    | inStep y => exact ⟨y, rfl⟩
    | gapOpen x e => exact absurd rfl (hgap x e)
  induction turns with
  | zero =>
    intro s hle hseen hgap
    have hempty : s.pairs[p].pool = [] := List.length_eq_zero_iff.1 (Nat.le_zero.1 hle)
    exact closed _ hseen (hgap (by rw [hempty]; rfl))
  | succ turns ih =>
    intro s hle hseen hgap
    rcases Option.eq_none_or_eq_some (lowestHeld s.pairs[p].pool c) with hnone | ⟨f, hf⟩
    · simp only [State.drainLoop, hnone, Option.isSome_none, Bool.false_eq_true, if_false]
      exact closed _ hseen (hgap hnone)
    · simp only [State.drainLoop, hf, Option.isSome_some, if_true]
      have hshorter := s.expiryStep_length p c f hf
      obtain ⟨hreleased, hseen'⟩ := s.expiryStep_released p c hf
      refine ih _ (by omega) hseen' fun hnone => ?_
      rcases hreleased with ⟨-, hclosed⟩ | ⟨g, hg, -⟩
      · exact hclosed
      · rw [hnone] at hg
        cases hg

/-! ## Forced expiries and the release of a pair (R110 to R113) -/

/-- The release of a pair begins with the drain of the oldest wait (R113). -/
theorem State.releaseAll_of_oldest (s : State) (p : PairId) (c : ChannelId) (h : s.oldestWait p = some c) :
    s.releaseAll p = (s.drain p c).releaseAll p := by
  obtain ⟨f, hf⟩ := (s.oldestWait_spec p).2 c h
  have hshorter := (s.drain_pool p c).2.2 (by rw [hf]; nofun)
  obtain ⟨k, hk⟩ := Nat.exists_eq_succ_of_ne_zero (Nat.ne_of_gt (Nat.zero_lt_of_lt hshorter))
  rw [State.releaseAll, State.releaseAll, hk]
  simp only [State.releaseAllLoop, h]
  exact State.releaseAllLoop_turns _ _ _ p (by omega) (Nat.le_refl _)

theorem State.forceExpiry_of_oldest (s : State) (p : PairId) (c : ChannelId) (h : s.oldestWait p = some c) :
    s.forceExpiry p = ((s.expireGap p c).setCounters p { (s.expireGap p c).pairs[p].counters with
      forcedReleases := satInc (s.expireGap p c).pairs[p].counters.forcedReleases }).raise (sourceForcedRelease p) := by
  simp only [State.forceExpiry, h]

/-- An expiry takes a held frame out of the pool (R103). -/
theorem State.expireGap_length (s : State) (p : PairId) (c : ChannelId) {f : ListedFrame}
    (h : lowestHeld s.pairs[p].pool c = some f) : (s.expireGap p c).pairs[p].pool.length < s.pairs[p].pool.length := by
  have hshorter := s.expiryStep_length p c f h
  unfold State.expireGap
  dsimp only
  split
  · exact hshorter
  · exact hshorter

/-- A forced expiry of a full pool makes room (R112). -/
theorem State.forceExpiry_room (s : State) (p : PairId) (hfull : s.pairs[p].pool.length = 128) :
    (s.forceExpiry p).pairs[p].pool.length < 128 := by
  rcases Option.eq_none_or_eq_some (s.oldestWait p) with hnone | ⟨c, hc⟩
  · rw [(s.oldestWait_spec p).1.1 hnone] at hfull
    cases hfull
  · obtain ⟨f, hf⟩ := (s.oldestWait_spec p).2 c hc
    have hshorter := s.expireGap_length p c hf
    have hpool : (s.forceExpiry p).pairs[p].pool = (s.expireGap p c).pairs[p].pool := by
      rw [s.forceExpiry_of_oldest p c hc]
      exact ((State.setCounters_sameHolds (s.expireGap p c) p _).trans (State.raise_sameHolds _ _)).pool p
    rw [hpool]
    omega

/-- With room in the pool an examination settles the frame (R85). -/
theorem State.examineData_of_room (s : State) (p : PairId) (f : ListedFrame) (h : s.pairs[p].pool.length < 128) :
    ∃ t, s.examineData p f = some t := by
  rcases s.examineData_cases p f with ⟨-, e⟩ | ⟨x, -, e | e | ⟨d, e⟩ | ⟨d, -, e⟩⟩
  · exact ⟨_, e⟩
  · exact ⟨_, e⟩
  · exact ⟨_, e⟩
  · exact ⟨_, e⟩
  · rw [e]
    unfold State.aheadFrame
    split
    · exact ⟨_, rfl⟩
    · split_ifs with hover hwait hroom
      · exact ⟨_, rfl⟩
      · exact ⟨_, rfl⟩
      · exact ⟨_, rfl⟩
      · exact absurd h hroom

/-- A release with nothing held closes the channel, and nothing else. -/
theorem State.release_of_no_frame (s : State) (p : PairId) (c : ChannelId) (h : ∀ f ∈ s.pairs[p].pool, f.channel ≠ c) :
    s.release p c = { s with channels := s.channels.set c { s.channels[c] with
      sequence := match s.channels[c].sequence with | .gapOpen x _ => .inStep x | q => q } } := by
  rw [State.release_of_none (lowestHeld_none.2 h), State.setSequence]
  cases s.channels[c].sequence <;> rfl

/-- Settles O26: how the loop ends and what it leaves, one turn of it by the lowest frame, and the order of the waits
that a forced expiry and a release of the pair take first. -/
theorem releaseStopsAtGapsOrEmpties : Obligations.ReleaseStopsAtGapsOrEmpties := by
  refine ⟨fun s p c => ?_, fun s p => ⟨s.releaseAll_pool p, fun c hheld holdest => ?_, fun hfull => ?_⟩⟩
  · obtain ⟨hframe, hsublist⟩ := s.releaseLoop_arbiterFrame (s.pairs[p].pool.length + 1) p c
    have hwidth : (s.release p c).width p = s.width p := congrFun hframe.width p
    refine ⟨?_, hsublist, hframe.lines, hframe.tables, hframe.tick, fun p' hp => hframe.pairs p' hp,
      fun c' hc => hframe.channels c' hc, fun hnone => ⟨s.drain_of_none p c (lowestHeld_none.2 hnone),
        s.release_of_no_frame p c hnone⟩, fun before f after hpool hchannel hbefore => ?_⟩
    · rw [← hwidth]
      exact s.release_released p c
    · intro a start given
      obtain ⟨hlowest, hremoved⟩ := lowestHeld_split (after := after) hchannel hbefore
      rw [← hpool] at hlowest hremoved
      refine ⟨fun hend => ?_, fun hend hstart => ?_, fun hstart => State.release_ahead hlowest hstart,
        s.drain_of_some p c hlowest⟩
      · rw [State.release_superseded hlowest hend, State.supersede, hremoved]
        rfl
      · rw [State.release_reached hlowest hend hstart]
        subst hchannel
        rw [State.releaseFrame, hremoved, State.deliver_setExpected]
        rfl
  · have hc := s.oldestWait_eq p c hheld holdest
    exact ⟨s.forceExpiry_of_oldest p c hc, s.releaseAll_of_oldest p c hc⟩
  · have hroom := s.forceExpiry_room p hfull
    refine ⟨hroom, fun f hnone => ?_⟩
    obtain ⟨t, ht⟩ := (s.forceExpiry p).examineData_of_room p f hroom
    exact ⟨t, ht, by simp only [State.dataFrame, hnone, ht, Option.getD_some]⟩

end Sys2Proof.Machine
end

section
/-! Frames behind X (R79 to R81), heartbeats (R86, R87) and the gap timer (R103 to R105). -/

namespace Sys2Proof.Machine

/-! ## Cases 2 and 3 of the table (R79 to R81) -/

/-- Case 2. -/
theorem State.examineData_reset (s : State) (p : PairId) (f : ListedFrame) (x : Nat)
    (hx : s.channels[f.channel].sequence.expected = some x) (hr : s.tables.channel[f.channel].resetExponent ≠ 0)
    (hd : offset (s.width p) f.s x < -(2 ^ s.tables.channel[f.channel].resetExponent : Int)) :
    s.examineData p f = some (s.sequenceReset p f) := by
  simp only [State.examineData, hx, if_pos (And.intro hr hd)]

/-- Case 3. -/
theorem State.examineData_old (s : State) (p : PairId) (f : ListedFrame) (x : Nat)
    (hx : s.channels[f.channel].sequence.expected = some x)
    (hreset : s.tables.channel[f.channel].resetExponent = 0 ∨
      -(2 ^ s.tables.channel[f.channel].resetExponent : Int) ≤ offset (s.width p) f.s x)
    (hend : offset (s.width p) f.s x + f.n ≤ 0) : s.examineData p f = some (s.oldFrame p f) := by
  rw [s.examineData_of_no_reset p f x hx hreset, if_pos hend]

theorem State.oldFrame_of_found (s : State) (p : PairId) (f : ListedFrame) (a : PairArbiter)
    (h : s.pairs[p].twinLookup p f.channel f.s .data f.record = some a) : s.oldFrame p f = s.setPair p a := by
  simp only [State.oldFrame, h]

theorem State.oldFrame_of_none (s : State) (p : PairId) (f : ListedFrame)
    (h : s.pairs[p].twinLookup p f.channel f.s .data f.record = none) : s.oldFrame p f = s.countLate p := by
  simp only [State.oldFrame, h]

theorem SequenceState.ne_unseen_of_expected {q : SequenceState} {x : Nat} (h : q.expected = some x) : q ≠ .unseen := by
  rintro rfl
  cases h

/-- Settles O23: the reset chain drains the channel and leaves it IN_STEP, so that X is set in IN_STEP. -/
theorem sequenceResetRestartsChannel : Obligations.SequenceResetRestartsChannel := by
  intro s p r c q n x hclass hn hx hexponent hbehind hagree chained reset
  have hempty : lowestHeld chained.pairs[p].pool c = none := (s.drain_pool p c).1
  have hclosed (hnone : lowestHeld s.pairs[p].pool c = none) (y e : Nat) : s.channels[c].sequence ≠ .gapOpen y e := by
    intro hgap
    obtain rfl : y = x := by
      rw [hgap] at hx
      exact Option.some.inj hx
    obtain ⟨f, hf, hchannel⟩ := hagree.1 ⟨e, hgap⟩
    exact lowestHeld_none.1 hnone f hf hchannel
  obtain ⟨y, hy⟩ : ∃ y, chained.channels[c].sequence = .inStep y :=
    s.drainLoop_inStep p c _ (Nat.le_refl _) (SequenceState.ne_unseen_of_expected hx) hclosed
  refine ⟨lowestHeld_none.1 hempty, ⟨y, hy⟩, ?_⟩
  rw [State.handleRecord_of_examineData hclass hn (s.examineData_reset p ⟨r, c, q, n⟩ x hx hexponent hbehind)]
  have hsame : reset.channels[c].sequence = .inStep y := by
    rw [chained.deliver_channels]
    exact hy
  have hset : reset.setExpected c (endOf (s.width p) q n) = { reset with
      channels := reset.channels.set c { reset.channels[c] with sequence := .inStep (endOf (s.width p) q n) } } := by
    rw [State.setExpected, hsame]
    rfl
  change ((State.setPair (reset.setExpected c (endOf (s.width p) q n)) p _).raise _).insertTwin p _ .data = _
  rw [hset]
  rfl

/-- Settles O24: case 3 of the table, then the twin lookup. -/
theorem oldFrameIsTwinRepeatOrLate : Obligations.OldFrameIsTwinRepeatOrLate := by
  intro s p r c q n x hclass hn hx d hreset hend a found
  have handled : s.handleRecord p r = s.oldFrame p ⟨r, c, q, n⟩ :=
    State.handleRecord_of_examineData hclass hn (s.examineData_old p ⟨r, c, q, n⟩ x hx hreset hend)
  refine ⟨fun e hfound hline => ?_, fun e hfound hline => ?_, fun hfound => ?_⟩
  · exact handled.trans (s.oldFrame_of_found p _ _ (a.twinLookup_other_line p c q .data r e hfound hline))
  · exact handled.trans (s.oldFrame_of_found p _ _ (a.twinLookup_own_line p c q .data r e hfound hline))
  · exact handled.trans (s.oldFrame_of_none p _ (a.twinLookup_none p c q .data r hfound))

/-! ## Heartbeats (R86, R87) -/

theorem State.handleRecord_of_beat {s : State} {p : PairId} {r : FrameRecord} {c : ChannelId} {q : Nat}
    (hclass : s.tables.classify p r.bytes = .listed c q 0) : s.handleRecord p r = s.heartbeat p ⟨r, c, q, 0⟩ := by
  simp only [State.handleRecord, hclass, if_true]

theorem State.heartbeat_of_found (s : State) (p : PairId) (f : ListedFrame) (a : PairArbiter)
    (h : s.pairs[p].twinLookup p f.channel f.s .beat f.record = some a) : s.heartbeat p f = s.setPair p a := by
  simp only [State.heartbeat, h]

theorem State.heartbeat_of_none (s : State) (p : PairId) (f : ListedFrame)
    (h : s.pairs[p].twinLookup p f.channel f.s .beat f.record = none) : s.heartbeat p f = s.deliverBeat p f := by
  simp only [State.heartbeat, h]

/-- Settles O28: the lookup with kind BEAT, then the state of the channel. -/
theorem heartbeatNeverMovesX : Obligations.HeartbeatNeverMovesX := by
  intro s p r c q hclass a found
  have handled := State.handleRecord_of_beat hclass
  have missed (hfound : found = none) : s.handleRecord p r = s.deliverBeat p ⟨r, c, q, 0⟩ :=
    handled.trans (s.heartbeat_of_none p _ (a.twinLookup_none p c q .beat r hfound))
  refine ⟨fun e hfound hline => ?_, fun e hfound hline => ?_, fun hfound hunseen => ?_, fun x hfound hx => ?_⟩
  · exact handled.trans (s.heartbeat_of_found p _ _ (a.twinLookup_other_line p c q .beat r e hfound hline))
  · exact handled.trans (s.heartbeat_of_found p _ _ (a.twinLookup_own_line p c q .beat r e hfound hline))
  · simp only [missed hfound, State.deliverBeat, hunseen, SequenceState.expected]
    rw [s.deliver_setExpected, hunseen]
    rfl
  · simp only [missed hfound, State.deliverBeat, hx]
    rfl

/-! ## The gap timer (R103 to R105) -/

theorem exec_gapTimerExpiry {s : State} (p : PairId) (c : ChannelId) (x expiry : Nat) (hclock : s.clock = .running)
    (henabled : s.tables.channel[c].enabled = true) (hpair : s.tables.channel[c].pair = p)
    (hgap : s.channels[c].sequence = .gapOpen x expiry) :
    exec (.gapTimerExpiry c) s = .next (if expiry ≤ s.tick then (s.expireGap p c).settle else s) := by
  rw [exec, execGapTimerExpiry, s.whenRunning_running _ hclock]
  simp only [State.gapExpiry, hgap, henabled, hpair, if_true]

/-- The figures of a gap given up, and X set after them, as one change (R104). -/
theorem State.accountGap_setExpected (s : State) (p : PairId) (c : ChannelId) (gap x : Nat) :
    (s.accountGap p c gap).setExpected c x = State.raise { s with
      pairs := s.pairs.set p { s.pairs[p] with counters := { s.pairs[p].counters with
        lostGaps := satInc s.pairs[p].counters.lostGaps
        lostMessages := satAdd s.pairs[p].counters.lostMessages gap } }
      channels := s.channels.set c { s.channels[c] with
        sequence := s.channels[c].sequence.withExpected x
        lostGaps := satInc s.channels[c].lostGaps
        lostMessages := satAdd s.channels[c].lostMessages gap } } (sourceGapLost p) := by
  simp only [State.setExpected, State.setSequence, State.setChannel, State.accountGap, State.setCounters, State.setPair,
    State.raise, State.setNotices, vector_getElem_set, Vector.set_set]

/-- Settles O27: an expiry step on the lowest held frame, then the timer by what the release loop leaves. -/
theorem gapTimerExpires : Obligations.GapTimerExpires := by
  intro s p c x expiry hclock henabled hpair hgap
  have hexec := exec_gapTimerExpiry p c x expiry hclock henabled hpair hgap
  refine ⟨fun hearly => by rw [hexec, if_neg (Nat.not_le.2 hearly)], ?_⟩
  intro f before after hpool hchannel hbefore width gap given k advanced t restarted
  obtain ⟨hlowest, hremoved⟩ := lowestHeld_split (after := after) hchannel hbefore
  rw [← hpool] at hlowest hremoved
  obtain ⟨y, hstep, hframe, hrest, -, hy⟩ := s.expiryStep_eq p c f hlowest
  have hy : y = advanced (.gapOpen ((f.s + f.n) % 2 ^ width) expiry) := by
    rw [hy, State.accountGap_setExpected, State.deliver_channels, s.expectedOf_of_some c x (by rw [hgap]; rfl), hremoved]
    change State.raise { State.deliver _ _ _ with
      pairs := _, channels := s.channels.set c { s.channels[c] with
        sequence := s.channels[c].sequence.withExpected _, lostGaps := _, lostMessages := _ } } _ = _
    rw [hgap]
    subst hchannel
    rfl
  have ht : s.expiryStep p c = t := by rw [hstep, hy]
  have htframe : ArbiterFrame p c s t := by
    rw [← ht, hstep]
    exact hframe.trans (y.releaseLoop_arbiterFrame _ p c).1
  refine ⟨ht, fun ⟨g, hg, hgc⟩ => ?_, fun hnone => ?_, fun hothers => ?_⟩
  · have hheld : (lowestHeld t.pairs[p].pool c).isSome = true := by
      rw [Option.isSome_iff_ne_none]
      exact fun hnone => lowestHeld_none.1 hnone g hg hgc
    have hexpire : s.expireGap p c = restarted := by
      simp only [State.expireGap, ht, hheld, if_true]
      rw [State.startGapTimer, htframe.tick, htframe.tables]
      rfl
    exact ⟨hexpire, fun hdue => by rw [hexec, if_pos hdue, hexpire]⟩
  · have hexpire : s.expireGap p c = t := by
      simp only [State.expireGap, ht, lowestHeld_none.2 hnone, Option.isSome_none, Bool.false_eq_true, if_false]
    exact ⟨hexpire, fun hdue => by rw [hexec, if_pos hdue, hexpire]⟩
  · have hleft : ∀ g ∈ (advanced (.gapOpen ((f.s + f.n) % 2 ^ width) expiry)).pairs[p].pool, g.channel ≠ c := by
      rw [← hy, hrest, hremoved]
      exact hothers
    change State.release _ p c = _
    rw [State.release_of_no_frame _ p c hleft]
    simp only [advanced, State.raise, State.setNotices, vector_getElem_set, Vector.set_set]

end Sys2Proof.Machine
end

section
/-! Delivery lines (R131, R132, R141, R142, R148) and the notice unit (R164 to R169). -/

namespace Sys2Proof.Machine

/-! ## Completion of a transmission (R132, R145) -/

theorem exec_transmitCompletion {s : State} (d : DlineId) (h : s.clock ≠ .resetHeld) :
    exec (.transmitCompletion d) s = .next (s.completeTransmit d) := congrArg _ (s.whenReleased_of_ne _ h)

theorem State.wireTimePassed_of_passed (s : State) (t : Transmission)
    (h : ∀ start, t.started = some start → start + ((t.bytes.length + 20) * 8 / 25 : Nat) ≤ (s.tick : Int)) :
    s.wireTimePassed t = true := by
  unfold State.wireTimePassed
  split
  · rfl
  · exact decide_eq_true (h _ ‹_›)

theorem State.wireTimePassed_of_not_passed (s : State) (t : Transmission) (start : Int) (hstart : t.started = some start)
    (h : (s.tick : Int) < start + ((t.bytes.length + 20) * 8 / 25 : Nat)) : s.wireTimePassed t = false := by
  simp only [State.wireTimePassed, hstart]
  exact decide_eq_false (Int.not_le.2 h)

theorem State.completeTransmit_idle {s : State} {d : DlineId} (h : s.deliveries[d].transmitter = .idle) :
    s.completeTransmit d = s := by
  simp only [State.completeTransmit, h]

theorem State.completeTransmit_sending {s : State} {d : DlineId} {t : Transmission}
    (h : s.deliveries[d].transmitter = .sending t) :
    s.completeTransmit d = if s.wireTimePassed t then (s.setDelivery d { s.deliveries[d] with
      transmitter := .idle
      counters := if t.counted then s.deliveries[d].counters.countSent t.kind else s.deliveries[d].counters }).settle
      else s := by
  simp only [State.completeTransmit, h]

theorem State.completeTransmit_discarding {s : State} {d : DlineId} {t : Transmission}
    (h : s.deliveries[d].transmitter = .discarding t) :
    s.completeTransmit d = if s.wireTimePassed t then (s.setDelivery d { s.deliveries[d] with
      transmitter := .idle
      counters := if t.counted then s.deliveries[d].counters.countDiscarded else s.deliveries[d].counters }).settle
      else s := by
  simp only [State.completeTransmit, h]

/-- Settles O31: a passed wire time, by what was in flight and by its kind, and a wire time that has not passed. -/
theorem transmissionsComplete : Obligations.TransmissionsComplete := by
  intro s d t hclock x done
  rw [exec_transmitCompletion d hclock]
  refine ⟨fun hpassed => ?_, fun start hstart hearly htransmitter => ?_, fun hidle => ?_⟩
  · have hwire := s.wireTimePassed_of_passed t hpassed
    have sent (k : TransmitKind) (h : x.transmitter = .sending t) (hkind : t.kind = k) :
        s.completeTransmit d = done (x.counters.countSent k) := by
      rw [State.completeTransmit_sending h, if_pos hwire, hkind]
      rfl
    refine ⟨fun h hkind => ?_, fun h hkind => ?_, fun h hkind => ?_, fun h => ?_⟩
    · exact congrArg _ (sent .feed h hkind)
    · exact congrArg _ (sent .reply h hkind)
    · exact congrArg _ (sent .notice h hkind)
    · rw [State.completeTransmit_discarding h, if_pos hwire]
      rfl
  · have hwire := s.wireTimePassed_of_not_passed t start hstart hearly
    rcases htransmitter with h | h
    · rw [State.completeTransmit_sending h, hwire, if_neg Bool.false_ne_true]
    · rw [State.completeTransmit_discarding h, hwire, if_neg Bool.false_ne_true]
  · rw [State.completeTransmit_idle hidle]

/-! ## Link changes of a delivery line (R131, R141, R142) -/

theorem exec_deliveryLinkChange {s : State} (d : DlineId) (link : LinkState) (h : s.clock ≠ .resetHeld) :
    exec (.deliveryLinkChange d link) s = .next (s.deliveryLink d link) := congrArg _ (s.whenReleased_of_ne _ h)

/-- A change to DOWN without a send to cut. -/
theorem State.deliveryLink_down {s : State} {d : DlineId} (hlink : s.deliveries[d].link = .up)
    (h : ∀ t, s.deliveries[d].transmitter ≠ .sending t) : s.deliveryLink d .down =
      ((s.setDelivery d { s.deliveries[d] with link := .down, reception := none }).raise (sourceDeliveryLink d)).settle := by
  have hchange : ¬s.deliveries[d].link = .down := by rw [hlink]; nofun
  cases ht : s.deliveries[d].transmitter with
  | sending t => exact absurd ht (h t)
  | idle => simp only [State.deliveryLink, if_neg hchange, ht]
  | discarding t => simp only [State.deliveryLink, if_neg hchange, ht]

/-- A change to DOWN that cuts a send. -/
theorem State.deliveryLink_cut {s : State} {d : DlineId} {t : Transmission} (hlink : s.deliveries[d].link = .up)
    (h : s.deliveries[d].transmitter = .sending t) : s.deliveryLink d .down =
      ((s.setDelivery d { s.deliveries[d] with
        link := .down, reception := none, transmitter := .idle
        counters := s.deliveries[d].counters.countDiscarded }).raise (sourceDeliveryLink d)).settle := by
  have hchange : ¬s.deliveries[d].link = .down := by rw [hlink]; nofun
  simp only [State.deliveryLink, if_neg hchange, h]

theorem State.deliveryLink_up {s : State} {d : DlineId} (hlink : s.deliveries[d].link = .down) : s.deliveryLink d .up =
    ((s.setDelivery d { s.deliveries[d] with link := .up }).raise (sourceDeliveryLink d)).settle := by
  have hchange : ¬s.deliveries[d].link = .up := by rw [hlink]; nofun
  rw [State.deliveryLink, if_neg hchange]

theorem State.deliveryLink_same (s : State) (d : DlineId) : s.deliveryLink d s.deliveries[d].link = s := if_pos rfl

/-- Settles O32: a report that repeats the state, a change to UP, and a change to DOWN by what is being sent. -/
theorem deliveryLinkChanges : Obligations.DeliveryLinkChanges := by
  intro s d hclock x put
  refine ⟨?_, fun hdown => ?_, fun hup hidle => ?_, fun t hup hsending => ?_⟩ <;> rw [exec_deliveryLinkChange d _ hclock]
  · rw [s.deliveryLink_same]
  · rw [State.deliveryLink_up hdown]
    rfl
  · rw [State.deliveryLink_down hup hidle]
    rfl
  · rw [State.deliveryLink_cut hup hsending]
    rfl

/-! ## The receive filter (R142, R148) -/

theorem exec_deliveryFrameCompletion {s : State} (d : DlineId) (bytes : List Byte) (receiveError : Bool)
    (h : s.clock ≠ .resetHeld) :
    exec (.deliveryFrameCompletion d bytes receiveError) s = .next (s.receiveFrame d bytes receiveError) :=
  congrArg _ (s.whenReleased_of_ne _ h)

theorem isCommandFrame_iff (station : Mac) (bytes : List Byte) (receiveError : Bool) :
    isCommandFrame station bytes receiveError = true ↔
      64 ≤ bytes.length ∧ bytes.length ≤ 2048 ∧ receiveError = false ∧
      bytes.drop (bytes.length - 4) = fcs (bytes.take (bytes.length - 4)) ∧ slice bytes 12 2 = [0x88, 0xB5] ∧
      slice bytes 14 3 = [0x4F, 0x43, 0x01] ∧ (macAt bytes 0 = station ∨ macAt bytes 0 = 0xFFFFFFFFFFFF) := by
  simp only [isCommandFrame, Bool.and_eq_true, Bool.or_eq_true, decide_eq_true_eq, Bool.not_eq_true', beq_iff_eq,
    fcsMatches_iff, Config.broadcast, and_assoc]

theorem State.receiveFrame_of_up {s : State} {d : DlineId} (bytes : List Byte) (receiveError : Bool)
    (hlink : s.deliveries[d].link = .up) (hreception : s.deliveries[d].reception = none) :
    s.receiveFrame d bytes receiveError =
      if isCommandFrame (stationAddress s.strapLatch) bytes receiveError then
        if s.inbox.length < 4 then
          ((s.setDelivery d { s.deliveries[d] with counters := { s.deliveries[d].counters with
            commandsAccepted := satInc s.deliveries[d].counters.commandsAccepted } }).setInbox
              (s.inbox ++ [⟨withoutFcs bytes, d, macAt bytes 0 == Config.broadcast⟩])).settleUnit
        else (s.raise sourceCommandDropped).settle
      else s.setDelivery d { s.deliveries[d] with counters := { s.deliveries[d].counters with
        foreign := satInc s.deliveries[d].counters.foreign } } := by
  have hline : ({ s.deliveries[d] with reception := none } : DeliveryLine) = s.deliveries[d] := by rw [← hreception]
  have hsame : s.setDelivery d s.deliveries[d] = s := by rw [State.setDelivery, vector_set_getElem]
  have hup : ¬s.deliveries[d].link = .down := by rw [hlink]; nofun
  simp only [State.receiveFrame, hreception, hline, hsame, if_neg hup, Option.getD_none, List.nil_append,
    State.setDelivery_inbox]
  rfl

/-- Settles O33: the link, then the tests of the filter, then the room in the inbox. -/
theorem receiveFilterKeepsCommands : Obligations.ReceiveFilterKeepsCommands := by
  intro s d bytes receiveError hclock x mine command
  have hfilter : isCommandFrame (stationAddress s.strapLatch) bytes receiveError = true ↔ command :=
    isCommandFrame_iff _ _ _
  rw [exec_deliveryFrameCompletion d bytes receiveError hclock]
  refine ⟨fun hdown => ?_, fun hup hreception hforeign => ?_, fun hup hreception hcommand hroom => ?_,
    fun hup hreception hcommand hfull => ?_⟩
  · rw [State.receiveFrame, if_pos hdown]
  · rw [State.receiveFrame_of_up bytes receiveError hup hreception, if_neg (mt hfilter.1 hforeign)]
    rfl
  · rw [State.receiveFrame_of_up bytes receiveError hup hreception, if_pos (hfilter.2 hcommand), if_pos hroom]
    rfl
  · rw [State.receiveFrame_of_up bytes receiveError hup hreception, if_pos (hfilter.2 hcommand),
      if_neg (Nat.not_lt.2 hfull)]
    rfl

/-! ## Builds (R166, R167) -/

/-- No build follows while the global enable is off, the slot full, the timer running, or no level ready. -/
theorem State.build_of_not_allowed {s : State} (h : s.buildAllowed = false) : s.build = s := by
  rw [State.build, h, if_neg Bool.false_ne_true]

theorem State.buildAllowed_iff (s : State) : s.buildAllowed = true ↔ s.tables.notice.globalEnable = true ∧
    s.notices.slot = none ∧ s.notices.spacingStart = none ∧ s.readyLevels ≠ [] := by
  simp only [State.buildAllowed, Bool.and_eq_true, Option.isNone_iff_eq_none, Bool.not_eq_true', List.isEmpty_eq_false_iff,
    and_assoc]

/-- A level comes before another one by rank, then by number (R166). -/
def RankedBefore (ranks : Vector Nat 4) (u v : Fin 4) : Prop := ranks[u] < ranks[v] ∨ (ranks[u] = ranks[v] ∧ u < v)

theorem RankedBefore.trans {ranks : Vector Nat 4} {u v w : Fin 4} (h : RankedBefore ranks u v)
    (g : RankedBefore ranks v w) : RankedBefore ranks u w := by
  unfold RankedBefore at *
  omega

theorem RankedBefore.asymm {ranks : Vector Nat 4} {u v : Fin 4} (h : RankedBefore ranks u v) :
    ¬RankedBefore ranks v u := by
  unfold RankedBefore at *
  omega

/-- The rank search over ascending levels answers the one that comes before all others (R166). -/
theorem lowestRank_least (ranks : Vector Nat 4) (first : Fin 4) (others : List (Fin 4))
    (hsorted : (first :: others).Pairwise (· < ·)) : ∀ v ∈ first :: others, v = lowestRank ranks first others ∨
      RankedBefore ranks (lowestRank ranks first others) v := by
  induction others generalizing first with
  | nil => exact fun v hv => .inl (List.mem_singleton.1 hv)
  | cons a rest ih =>
    obtain ⟨hfirst, hrest⟩ := List.pairwise_cons.1 hsorted
    have reached {best v : Fin 4} (hbest : best = lowestRank ranks first (a :: rest) ∨
        RankedBefore ranks (lowestRank ranks first (a :: rest)) best) (h : RankedBefore ranks best v) :
        RankedBefore ranks (lowestRank ranks first (a :: rest)) v := hbest.elim (fun e => e ▸ h) fun g => g.trans h
    by_cases hrank : ranks[a] < ranks[first]
    · have hleast := ih a hrest
      have hlow : lowestRank ranks a rest = lowestRank ranks first (a :: rest) := by
        simp only [lowestRank, List.foldl_cons, if_pos hrank]
      rw [hlow] at hleast
      exact List.forall_mem_cons.2 ⟨.inr (reached (hleast a List.mem_cons_self) (.inl hrank)), hleast⟩
    · have hskip : (first :: rest).Pairwise (· < ·) :=
        List.pairwise_cons.2 ⟨fun v hv => hfirst v (List.mem_cons_of_mem _ hv), (List.pairwise_cons.1 hrest).2⟩
      have hleast := ih first hskip
      have hlow : lowestRank ranks first rest = lowestRank ranks first (a :: rest) := by
        simp only [lowestRank, List.foldl_cons, if_neg hrank]
      rw [hlow] at hleast
      have hbefore : RankedBefore ranks first a :=
        (Nat.lt_or_eq_of_le (Nat.le_of_not_lt hrank)).imp_right fun e => ⟨e, hfirst a List.mem_cons_self⟩
      have hhead := hleast first List.mem_cons_self
      exact List.forall_mem_cons.2 ⟨hhead, List.forall_mem_cons.2 ⟨.inr (reached hhead hbefore),
        fun v hv => hleast v (List.mem_cons_of_mem _ hv)⟩⟩

/-- A build takes the ready level that is least by rank, then by number (R166). -/
theorem State.build_of_least {s : State} {level : Fin 4} (henable : s.tables.notice.globalEnable = true)
    (hslot : s.notices.slot = none) (hspacing : s.notices.spacingStart = none) (hready : level ∈ s.readyLevels)
    (hleast : ∀ v ∈ s.readyLevels, v ≠ level → RankedBefore s.tables.notice.ranks level v) : s.build = s.buildLevel level := by
  have hallowed : s.buildAllowed = true := s.buildAllowed_iff.2 ⟨henable, hslot, hspacing, List.ne_nil_of_mem hready⟩
  have hsorted : s.readyLevels.Pairwise (· < ·) := (List.pairwise_lt_finRange 4).filter _
  rw [State.build, if_pos hallowed]
  cases hlevels : s.readyLevels with
  | nil => rw [hlevels] at hready; cases hready
  | cons first others =>
    rw [hlevels] at hready hleast hsorted
    suffices h : lowestRank s.tables.notice.ranks first others = level by simp only [h]
    by_contra hne
    have hbefore := hleast _ (lowestRank_mem s.tables.notice.ranks first others) hne
    rcases lowestRank_least s.tables.notice.ranks first others hsorted level hready with h | h
    · exact hne h.symm
    · exact h.asymm hbefore

theorem field_one_of_le {v : Nat} (h : v ≤ 255) : field 1 v = [BitVec.ofNat 8 v] := by
  rw [field, Nat.min_eq_left (by omega), natBytes, natBytes, pow_zero, Nat.div_one]

theorem field_one (v : Nat) : field 1 v = [BitVec.ofNat 8 (min v 255)] := by
  rw [field, natBytes, natBytes, pow_zero, Nat.div_one]
  rfl

/-- The notice frame of a level: the headers, then the pending sources with their counts (R167). -/
theorem State.noticeFrame_eq (s : State) (level : Fin 4) (ids : List (Fin 52)) (hids : s.notices.pendingOf level = ids) :
    s.noticeFrame level = macField s.tables.notice.destination ++ macField (stationAddress s.strapLatch) ++
      [0x88, 0xB5, 0x4F, 0x43, 3, BitVec.ofNat 8 level.val, 0, 0, BitVec.ofNat 8 ids.length] ++
      ids.flatMap fun id => [BitVec.ofNat 8 id.val, BitVec.ofNat 8 (min s.notices.counts[id] 255)] := by
  have hlength : ids.length ≤ 255 := by
    have hle : ids.length ≤ 52 := by
      rw [← hids]
      exact (List.length_filter_le _ _).trans_eq (List.length_finRange)
    omega
  have hlevel : level.val ≤ 255 := by omega
  have hsource (id : Fin 52) : field 1 id.val = [BitVec.ofNat 8 id.val] := field_one_of_le (by omega)
  simp only [State.noticeFrame, managementHeader, hids, field_one_of_le hlength, field_one_of_le hlevel, hsource, field_one,
    List.append_assoc, List.cons_append, List.nil_append]
  rfl

/-! ## The spacing timer (R168, R169) and what follows an event -/

theorem State.settle_of_quiet {s : State} (h : s.Quiet) : s.settle = s := by
  obtain ⟨hdisabled, hbusy⟩ := h
  have hbuild : s.build = s := State.build_of_not_allowed (by simp only [State.buildAllowed, hdisabled, Bool.false_and])
  rw [State.settle, hbuild, s.choose_of_busy 0 (hbusy 0), s.choose_of_busy 1 (hbusy 1), hbuild]

theorem State.pendingOf_eq (s : State) (level : Fin 4) : s.notices.pendingOf level =
    (List.finRange 52).filter fun id => sourceLevel id = level ∧ s.notices.counts[id] ≠ 0 := by
  refine List.filter_congr fun id _ => ?_
  rw [Bool.eq_iff_iff, Bool.and_eq_true, beq_iff_eq, decide_eq_true_eq, decide_eq_true_eq, Nat.pos_iff_ne_zero]

/-- Settles O35: a raise, a build by the least ready level, the spacing timer, and the order after an event. -/
theorem noticesAreRaisedBuiltAndSpaced : Obligations.NoticesAreRaisedBuiltAndSpaced := by
  refine ⟨fun s => ⟨fun id => rfl, fun hblocked => ?_, fun level henable hslot hspacing => ?_⟩,
    fun s => ⟨fun t hclock hstart hdue => ?_, fun hstopped => ?_, rfl, State.settle_of_quiet⟩⟩
  · refine State.build_of_not_allowed (Bool.eq_false_iff.2 fun hallowed => ?_)
    obtain ⟨henable, hslot, hspacing, hlevels⟩ := s.buildAllowed_iff.1 hallowed
    rcases hblocked with h | h | h | h
    · rw [henable] at h
      cases h
    · exact h hslot
    · exact h hspacing
    · obtain ⟨level, hlevel⟩ := List.exists_mem_of_ne_nil _ hlevels
      obtain ⟨hmask, id, rfl, hcount⟩ := (s.mem_readyLevels level).1 hlevel
      rw [h id (Nat.ne_of_gt hcount)] at hmask
      cases hmask
  · intro ready rank hready hleast
    have hmem (v : Fin 4) : v ∈ s.readyLevels ↔ ready v := by
      simp only [s.mem_readyLevels, Nat.pos_iff_ne_zero, ready]
    intro ids t
    have ht : t = s.buildLevel level := State.build_of_least henable hslot hspacing ((hmem level).2 hready)
      fun v hv hne => hleast v ((hmem v).1 hv) hne
    refine ⟨s.build_frame, ?_, fun id => ?_, ?_⟩ <;> rw [ht]
    · exact (s.buildLevel_spacingStart level).trans hspacing
    · exact s.buildLevel_counts level id
    · exact (s.buildLevel_slot level).trans (congrArg some (s.noticeFrame_eq level ids (s.pendingOf_eq level)))
  · rw [exec, execSpacingTimerExpiry, s.whenRunning_running _ hclock]
    have hexpiry : s.spacingExpiry = some (t + s.tables.notice.spacing * 400) := by
      rw [State.spacingExpiry, hstart]
      rfl
    simp only [hexpiry, if_pos hdue]
    rfl
  · have hexpiry : s.spacingExpiry = none := by
      rw [State.spacingExpiry, hstopped]
      rfl
    rw [exec, execSpacingTimerExpiry, State.whenRunning]
    simp only [hexpiry, ite_self]

end Sys2Proof.Machine
end

section
/-! The figures of READ_COUNTERS, READ_CHANNELS, READ_LAG and READ_NOTICES in their bytes (R57, R93, R94, R128, R144,
R170, R175). -/

namespace Sys2Proof.Machine

/-! ## Records of one length in a row -/

section
variable {α : Type} {enc : α → List Byte} {k : Nat} {xs : List α}

theorem flatMap_length (h : ∀ a ∈ xs, (enc a).length = k) : (xs.flatMap enc).length = k * xs.length := by
  induction xs with
  | nil => rfl
  | cons a t ih =>
    obtain ⟨ha, ht⟩ := List.forall_mem_cons.1 h
    rw [List.flatMap_cons, List.length_append, ha, ih ht, List.length_cons, Nat.mul_succ, Nat.add_comm]

/-- The i-th record of a row stands at i times the length of a record. -/
theorem slice_flatMap (h : ∀ a ∈ xs, (enc a).length = k) (rest : List Byte) (i : Nat) (hi : i < xs.length) :
    slice (xs.flatMap enc ++ rest) (k * i) k = enc xs[i] := by
  induction xs generalizing i with
  | nil => exact absurd hi (Nat.not_lt_zero _)
  | cons a t ih =>
    obtain ⟨ha, ht⟩ := List.forall_mem_cons.1 h
    rw [List.flatMap_cons, List.append_assoc]
    cases i with
    | zero => rw [Nat.mul_zero, slice, List.drop_zero, ← ha, List.take_left]; rfl
    | succ i =>
      have hskip : (enc a).length ≤ k * (i + 1) := by rw [ha]; exact Nat.le_mul_of_pos_right _ (Nat.succ_pos _)
      rw [slice_append_right _ _ _ _ hskip, ha, Nat.mul_succ, Nat.add_sub_cancel]
      exact ih ht i (Nat.lt_of_succ_lt_succ hi)

/-- A number within a slice is a number of the whole. -/
theorem numAt_slice (bs : List Byte) (o n j w : Nat) (h : j + w ≤ n) : numAt (slice bs o n) j w = numAt bs (o + j) w := by
  rw [numAt, numAt, slice, slice, slice, List.drop_take, List.take_take, List.drop_drop, Nat.min_eq_left (by omega)]

/-- A number of the i-th record of a row. -/
theorem numAt_flatMap (h : ∀ a ∈ xs, (enc a).length = k) (rest : List Byte) {i : Nat} (hi : i < xs.length) (j w : Nat)
    (hw : j + w ≤ k) : numAt (xs.flatMap enc ++ rest) (k * i + j) w = numAt (enc xs[i]) j w := by
  rw [← slice_flatMap h rest i hi, numAt_slice _ _ _ _ _ hw]

end

/-- A row of unsigned fields reads back as its values (R172). -/
theorem numAt_fields (xs : List Nat) (rest : List Byte) :
    ((List.range xs.length).map fun i => numAt (xs.flatMap (field 4) ++ rest) (4 * i) 4) =
      xs.map (min · (2 ^ 32 - 1)) := by
  refine List.ext_getElem (by simp) fun i hi hxs => ?_
  have hlt : i < xs.length := by simpa using hxs
  rw [List.getElem_map, List.getElem_map, List.getElem_range]
  exact (numAt_flatMap (fun a _ => field_length 4 a) rest hlt 0 4 (Nat.le_refl _)).trans (numAt_field 4 xs[i])

/-- A row of signed fields reads back as its values (R172). -/
theorem signedAt_fields (xs : List Int) (rest : List Byte) :
    ((List.range xs.length).map fun i => signedAt (xs.flatMap (signedField 8) ++ rest) (8 * i) 8) =
      xs.map fun v => max (-(2 ^ 63)) (min v (2 ^ 63 - 1)) := by
  refine List.ext_getElem (by simp) fun i hi hxs => ?_
  have hlt : i < xs.length := by simpa using hxs
  rw [List.getElem_map, List.getElem_map, List.getElem_range]
  have hread : numAt (xs.flatMap (signedField 8) ++ rest) (8 * i) 8 = numAt (signedField 8 xs[i]) 0 8 :=
    numAt_flatMap (fun a _ => signedField_length 8 a) rest hlt 0 8 (Nat.le_refl _)
  rw [signedAt, hread]
  exact signedAt_signedField 7 xs[i]

/-! ## Fields that hold their values whole -/

theorem numAt_boolField (b : Bool) : numAt (boolField b) 0 1 = b.toNat := by
  cases b <;> rfl

@[simp] theorem boolField_length (b : Bool) : (boolField b).length = 1 := by
  rw [boolField, List.length_singleton]

theorem min_stampSeconds (t256 : Nat) : min (stampSeconds t256) 281474976710655 = stampSeconds t256 :=
  min_eq_left (Nat.le_pred_of_lt (stampSeconds_lt t256))

theorem min_stampNs (t256 : Nat) : min (stampNs t256) 4294967295 = stampNs t256 :=
  min_eq_left ((stampNs_le t256).trans (by decide))

theorem min_stampSub (t256 : Nat) : min (stampSub t256) 255 = stampSub t256 := min_eq_left (stampSub_le t256)

theorem min_linkCode (l : LinkState) : min (linkCode l) 255 = linkCode l := by
  cases l <;> rfl

theorem min_modeCode (m : LineMode) : min m.code 255 = m.code := by
  cases m <;> rfl

theorem min_sequenceCode (q : SequenceState) : min q.code 255 = q.code := by
  cases q <;> rfl

/-! ## READ_COUNTERS (R57, R93, R144) -/

theorem exec_readCountersLine {s : State} {c : CommandInFlight} {l : LineId} {clear : Bool}
    (h : s.Serving c (.readCountersLine l clear)) :
    exec .readCountersLine s = .next ((s.clearLine l clear).afterRequest c .done s.lines[l].data) := by
  rw [exec, execReadCountersLine, h.served _ rfl]

theorem exec_readCountersPair {s : State} {c : CommandInFlight} {p : PairId} {clear : Bool}
    (h : s.Serving c (.readCountersPair p clear)) :
    exec .readCountersPair s = .next ((s.clearPairCounters p clear).afterRequest c .done s.pairs[p].data) := by
  rw [exec, execReadCountersPair, h.served _ rfl]

theorem exec_readCountersDelivery {s : State} {c : CommandInFlight} {d : DlineId} {clear : Bool}
    (h : s.Serving c (.readCountersDelivery d clear)) :
    exec .readCountersDelivery s = .next ((s.clearDelivery d clear).afterRequest c .done s.deliveries[d].data) := by
  rw [exec, execReadCountersDelivery, h.served _ rfl]

@[simp] theorem LineCounters.data_length (k : LineCounters) : k.data.length = 32 := by
  simp [LineCounters.data]

@[simp] theorem PairCounters.data_length (k : PairCounters) : k.data.length = 60 := by
  simp [PairCounters.data]

@[simp] theorem DeliveryCounters.data_length (k : DeliveryCounters) : k.data.length = 24 := by
  simp [DeliveryCounters.data]

theorem FeedLine.data_length (f : FeedLine) : f.data.length = 48 := by
  simp [FeedLine.data]

theorem PairArbiter.data_length (a : PairArbiter) : a.data.length = 64 := by
  simp [PairArbiter.data]

theorem DeliveryLine.data_length (x : DeliveryLine) : x.data.length = 26 := by
  simp [DeliveryLine.data]

/-- The eight counters of a line in the layout of R175. -/
theorem FeedLine.data_counters (f : FeedLine) :
    ((List.range 8).map fun i => numAt f.data (4 * i) 4) =
      [f.counters.goodFrames, f.counters.fcsErrors, f.counters.runts, f.counters.oversize, f.counters.overflow,
        f.counters.truncated, f.counters.flushed, f.counters.linkFlaps].map (min · (2 ^ 32 - 1)) := by
  simp only [FeedLine.data, LineCounters.data, List.append_assoc]
  exact numAt_fields [_, _, _, _, _, _, _, _] _

/-- The figures of a line after its counters in the layout of R175. -/
theorem FeedLine.data_figures (f : FeedLine) :
    numAt f.data 32 6 = stampSeconds f.lastArrival.stamp ∧ numAt f.data 38 4 = stampNs f.lastArrival.stamp ∧
      numAt f.data 42 1 = stampSub f.lastArrival.stamp ∧ numAt f.data 43 1 = min f.lastArrival.quality 255 ∧
      numAt f.data 44 1 = linkCode f.link ∧ numAt f.data 45 1 = f.mode.code ∧ numAt f.data 46 1 = f.silent.toNat ∧
      numAt f.data 47 1 = min f.buffer.length 255 := by
  simp [FeedLine.data, numAt_append_left, numAt_append_right, numAt_field, numAt_boolField, min_stampSeconds,
    min_stampNs, min_stampSub, min_linkCode, min_modeCode]

/-- The fifteen counters of a pair in the layout of R175. -/
theorem PairArbiter.data_counters (a : PairArbiter) :
    ((List.range 15).map fun i => numAt a.data (4 * i) 4) =
      [a.counters.taken, a.counters.delivered, a.counters.twins, a.counters.sameLineRepeats, a.counters.late,
        a.counters.conflicts, a.counters.superseded, a.counters.unlistedDelivered, a.counters.unlistedDropped,
        a.counters.undecodable, a.counters.lostGaps, a.counters.lostMessages, a.counters.forcedReleases,
        a.counters.deliveryDrops, a.counters.flushed].map (min · (2 ^ 32 - 1)) := by
  simp only [PairArbiter.data, PairCounters.data, List.append_assoc]
  exact numAt_fields [_, _, _, _, _, _, _, _, _, _, _, _, _, _, _] _

/-- The figures of a pair after its counters in the layout of R175. -/
theorem PairArbiter.data_figures (a : PairArbiter) :
    numAt a.data 60 1 = min a.queue.length 255 ∧ numAt a.data 61 1 = min a.pool.length 255 ∧
      numAt a.data 62 1 = min a.window.length 255 ∧ numAt a.data 63 1 = a.dropBefore.toNat := by
  simp [PairArbiter.data, numAt_append_left, numAt_append_right, numAt_field, numAt_boolField]

/-- The six counters of a delivery line in the layout of R175. -/
theorem DeliveryLine.data_counters (x : DeliveryLine) :
    ((List.range 6).map fun i => numAt x.data (4 * i) 4) =
      [x.counters.feedSent, x.counters.repliesSent, x.counters.noticesSent, x.counters.discarded, x.counters.foreign,
        x.counters.commandsAccepted].map (min · (2 ^ 32 - 1)) := by
  simp only [DeliveryLine.data, DeliveryCounters.data, List.append_assoc]
  exact numAt_fields [_, _, _, _, _, _] _

/-- The figures of a delivery line after its counters in the layout of R175. -/
theorem DeliveryLine.data_figures (x : DeliveryLine) :
    numAt x.data 24 1 = linkCode x.link ∧ numAt x.data 25 1 = min x.replies.length 255 := by
  simp [DeliveryLine.data, numAt_append_left, numAt_append_right, numAt_field, min_linkCode]

/-- Settles O37: each scope's row, the length of its data, its counters and the figures after them. -/
theorem counterReads : Obligations.CounterReads := by
  refine fun s c clear => ⟨fun l h => ?_, fun p h => ?_, fun d h => ?_⟩
  · exact ⟨_, exec_readCountersLine h, s.lines[l].data_length, s.lines[l].data_counters, s.lines[l].data_figures⟩
  · exact ⟨_, exec_readCountersPair h, s.pairs[p].data_length, s.pairs[p].data_counters, s.pairs[p].data_figures⟩
  · exact ⟨_, exec_readCountersDelivery h, s.deliveries[d].data_length, s.deliveries[d].data_counters,
      s.deliveries[d].data_figures⟩

/-! ## READ_CHANNELS, READ_LAG, READ_NOTICES (R94, R128, R129, R170) -/

theorem exec_readChannels {s : State} {c : CommandInFlight} {start count : Nat}
    (h : s.Serving c (.readChannels start count)) :
    exec .readChannels s = .next (s.afterRequest c .done (s.channelsData start count)) := by
  rw [exec, execReadChannels, h.served _ rfl, State.answer]

theorem exec_readLag {s : State} {c : CommandInFlight} {p : PairId} {clear : Bool} (h : s.Serving c (.readLag p clear)) :
    exec .readLag s = .next ((s.clearLag p clear).afterRequest c .done s.pairs[p].lag.data) := by
  rw [exec, execReadLag, h.served _ rfl]

theorem exec_readNotices {s : State} {c : CommandInFlight} {clear : Bool} (h : s.Serving c (.readNotices clear)) :
    exec .readNotices s =
      .next (State.afterRequest (if clear then s.clearNoticeSources else s) c .done s.notices.data) := by
  rw [exec, execReadNotices, h.served _ rfl]

@[simp] theorem State.channelData_length (s : State) (ch : ChannelId) : (s.channelData ch).length = 19 := by
  simp [State.channelData]

/-- The figures of a channel in the layout of R175. -/
theorem State.channelData_figures (s : State) (ch : ChannelId) :
    numAt (s.channelData ch) 0 1 = ch.val ∧ numAt (s.channelData ch) 1 1 = s.channels[ch].sequence.code ∧
      numAt (s.channelData ch) 2 8 = min (s.expectedOf ch) (2 ^ 64 - 1) ∧
      numAt (s.channelData ch) 10 1 = min (s.heldCount ch) 255 ∧
      numAt (s.channelData ch) 11 4 = min s.channels[ch].lostGaps (2 ^ 32 - 1) ∧
      numAt (s.channelData ch) 15 4 = min s.channels[ch].lostMessages (2 ^ 32 - 1) := by
  have hnumber : min ch.val 255 = ch.val := min_eq_left (Nat.le_pred_of_lt ch.isLt)
  simp [-Fin.getElem_fin, State.channelData, numAt_append_left, numAt_append_right, numAt_field, min_sequenceCode,
    hnumber]

/-- The held frames of a channel in their field: none while its entry belongs to no pair. -/
theorem State.min_heldCount (s : State) (ch : ChannelId) (k : Nat) :
    min (s.heldCount ch) k = if s.tables.channel[ch].enabled then
      min (s.pairs[s.tables.channel[ch].pair].pool.filter (·.channel == ch)).length k else 0 := by
  rw [State.heldCount]
  split
  · rfl
  · exact Nat.zero_min k

/-- The records of READ_CHANNELS within the table. -/
theorem State.channelsData_eq (s : State) (start count : Nat) (h : start + count ≤ 256) :
    (s.channelsData start count).length = 19 * count ∧ ∀ (i : Nat) (ch : ChannelId), i < count → ch.val = start + i →
      ∀ j w, j + w ≤ 19 → numAt (s.channelsData start count) (19 * i + j) w = numAt (s.channelData ch) j w := by
  have hrecord : ∀ i ∈ List.range count,
      (if h : start + i < 256 then s.channelData ⟨start + i, h⟩ else []).length = 19 := fun i hi => by
    rw [dif_pos (by have := List.mem_range.1 hi; omega), s.channelData_length]
  refine ⟨(flatMap_length hrecord).trans (by rw [List.length_range]), fun i ch hi hch j w hw => ?_⟩
  have hread := numAt_flatMap hrecord [] (i := i) (by rwa [List.length_range]) j w hw
  rw [List.append_nil, List.getElem_range, dif_pos (hch ▸ ch.isLt)] at hread
  exact hread.trans (congrArg (fun x => numAt (s.channelData x) j w) (Fin.ext hch.symm))

theorem LagStats.data_length (g : LagStats) : g.data.length = 56 := by
  simp [LagStats.data]

/-- The figures of the lag statistics in the layout of R175. -/
theorem LagStats.data_figures (g : LagStats) :
    ((List.range 4).map fun i => numAt g.data (4 * i) 4) =
        [g.samples, g.aFirst, g.bFirst, g.ties].map (min · (2 ^ 32 - 1)) ∧
      ((List.range 4).map fun i => signedAt g.data (16 + 8 * i) 8) =
        [g.minLag, g.maxLag, g.lagSum, g.lastLag].map (fun v => max (-(2 ^ 63)) (min v (2 ^ 63 - 1))) ∧
      numAt g.data 48 4 = min g.singleSided (2 ^ 32 - 1) ∧ numAt g.data 52 4 = min g.sameLineRepeats (2 ^ 32 - 1) := by
  refine ⟨?_, ?_, ?_⟩
  · simp only [LagStats.data, List.append_assoc]
    exact numAt_fields [_, _, _, _] _
  · rw [← signedAt_fields [g.minLag, g.maxLag, g.lagSum, g.lastLag] (field 4 g.singleSided ++ field 4 g.sameLineRepeats)]
    refine List.map_congr_left fun i _ => ?_
    have hlength : ([g.samples, g.aFirst, g.bFirst, g.ties].flatMap (field 4)).length = 16 :=
      flatMap_length fun a _ => field_length 4 a
    simp only [LagStats.data, List.append_assoc]
    rw [signedAt_append_right _ _ _ _ (by omega), hlength, Nat.add_sub_cancel_left]
  · simp [LagStats.data, numAt_append_left, numAt_append_right, numAt_field]

/-- A pending flag and the repeat count (R170). -/
theorem NoticeUnit.data_figures (u : NoticeUnit) : u.data.length = 104 ∧ ∀ id : Fin 52,
    numAt u.data (2 * id.val) 1 = (if 0 < u.counts[id] then 1 else 0) ∧
      numAt u.data (2 * id.val + 1) 1 = min u.counts[id] 255 := by
  have hrecord : ∀ n ∈ u.counts.toList, (boolField (decide (0 < n)) ++ field 1 n).length = 2 := fun n _ => by simp
  have hlength : u.counts.toList.length = 52 := Vector.length_toList
  refine ⟨(flatMap_length hrecord).trans (by rw [hlength]), fun id => ?_⟩
  have hid : id.val < u.counts.toList.length := by rw [hlength]; exact id.isLt
  have hentry : u.counts.toList[id.val] = u.counts[id] := Vector.getElem_toList _
  have read (j w : Nat) (hw : j + w ≤ 2) : numAt u.data (2 * id.val + j) w =
      numAt (boolField (decide (0 < u.counts[id])) ++ field 1 u.counts[id]) j w := by
    have hread := numAt_flatMap hrecord [] hid j w hw
    rw [List.append_nil, hentry] at hread
    exact hread
  refine ⟨(read 0 1 (by decide)).trans ?_, (read 1 1 (by decide)).trans ?_⟩
  · rw [numAt_append_left _ _ _ _ (by simp), numAt_boolField]
    split_ifs with h
    · rw [decide_eq_true h]; rfl
    · rw [decide_eq_false h]; rfl
  · rw [numAt_append_right _ _ _ _ (by simp)]
    exact numAt_field 1 _

/-- Settles O38: the records of the channels one by one, the lag statistics, and the sources one by one. -/
theorem channelLagAndNoticeReads : Obligations.ChannelLagAndNoticeReads := by
  refine fun s c => ⟨fun start count hrange h => ?_, fun p clear h => ?_, fun clear h => ?_⟩
  · obtain ⟨hlength, hread⟩ := s.channelsData_eq start count hrange
    refine ⟨_, exec_readChannels h, hlength, fun i ch hi hch => ?_⟩
    obtain ⟨hnumber, hcode, hexpected, hheld, hgaps, hmessages⟩ := s.channelData_figures ch
    have read := hread i ch hi hch
    refine ⟨(read 0 1 (by decide)).trans hnumber, (read 1 1 (by decide)).trans hcode,
      (read 2 8 (by decide)).trans hexpected, ((read 10 1 (by decide)).trans hheld).trans (s.min_heldCount ch 255),
      (read 11 4 (by decide)).trans hgaps, (read 15 4 (by decide)).trans hmessages⟩
  · exact ⟨_, exec_readLag h, s.pairs[p].lag.data_length, s.pairs[p].lag.data_figures⟩
  · exact ⟨_, exec_readNotices h, s.notices.data_figures⟩

end Sys2Proof.Machine
end

section
/-! Table entries in bytes (R176): what each entry's bytes say, when they are within the values of their rule, and that an
entry read back is the entry written (R157). -/

namespace Sys2Proof.Machine

/-! ## Fields and the bytes they came from -/

theorem numAt_lt (bs : List Byte) (o k : Nat) : numAt bs o k < 256 ^ k :=
  (bigEndian_lt _).trans_le (Nat.pow_le_pow_right (by decide) (List.length_take_le _ _))

/-- Whole turns of the width leave the bytes of a number. -/
theorem natBytes_add_turns (k c v : Nat) : natBytes k (c * 256 ^ k + v) = natBytes k v := by
  induction k generalizing c with
  | zero => rfl
  | succ k ih =>
    have hturns : c * 256 ^ (k + 1) + v = c * 256 * 256 ^ k + v := by ring
    have hdiv : (c * 256 * 256 ^ k + v) / 256 ^ k = c * 256 + v / 256 ^ k := by
      rw [Nat.add_comm, Nat.add_mul_div_right _ _ (Nat.pow_pos (by decide)), Nat.add_comm]
    rw [natBytes, natBytes, hturns, ih, hdiv]
    congr 1
    refine BitVec.eq_of_toNat_eq ?_
    rw [BitVec.toNat_ofNat, BitVec.toNat_ofNat]
    omega

theorem natBytes_bigEndian (bs : List Byte) : natBytes bs.length (bigEndian bs) = bs := by
  induction bs with
  | nil => rfl
  | cons b t ih =>
    have hpos : 0 < 256 ^ t.length := Nat.pow_pos (by decide)
    rw [List.length_cons, natBytes, bigEndian_cons, natBytes_add_turns, ih, Nat.add_comm, Nat.add_mul_div_right _ _ hpos,
      Nat.div_eq_of_lt (bigEndian_lt t), Nat.zero_add, BitVec.ofNat_toNat, BitVec.setWidth_eq]

theorem slice_length {bs : List Byte} {o k : Nat} (h : o + k ≤ bs.length) : (slice bs o k).length = k := by
  rw [slice, List.length_take, List.length_drop]
  omega

section
variable {bs : List Byte} {o k : Nat}

theorem natBytes_numAt (h : o + k ≤ bs.length) : natBytes k (numAt bs o k) = slice bs o k := by
  have hbytes := natBytes_bigEndian (slice bs o k)
  rwa [slice_length h] at hbytes

theorem field_numAt (h : o + k ≤ bs.length) : field k (numAt bs o k) = slice bs o k := by
  rw [field, Nat.min_eq_left (Nat.le_sub_one_of_lt (numAt_lt bs o k)), natBytes_numAt h]

theorem macField_macAt (h : o + 6 ≤ bs.length) : macField (macAt bs o) = slice bs o 6 := by
  have hlt : numAt bs o 6 < 2 ^ 48 := numAt_lt bs o 6
  rw [macField, macAt, BitVec.toNat_ofNat, Nat.mod_eq_of_lt hlt, natBytes_numAt h]

theorem boolField_numAt (h : o + 1 ≤ bs.length) (hflag : numAt bs o 1 ≤ 1) :
    boolField (numAt bs o 1 == 1) = slice bs o 1 := by
  rw [← field_numAt h]
  rcases Nat.le_one_iff_eq_zero_or_eq_one.1 hflag with e | e <;> rw [e] <;> rfl

/-- The one of two things that a field names. -/
def oneOfTwo (v : Nat) : Fin 2 := if v = 0 then 0 else 1

theorem field_oneOfTwo (h : o + 1 ≤ bs.length) (hflag : numAt bs o 1 ≤ 1) :
    field 1 (oneOfTwo (numAt bs o 1)).val = slice bs o 1 := by
  rw [← field_numAt h]
  rcases Nat.le_one_iff_eq_zero_or_eq_one.1 hflag with e | e <;> rw [e] <;> rfl

/-- Bytes taken in pieces one after another. -/
theorem take_slice (bs : List Byte) (m k : Nat) : bs.take m ++ slice bs m k = bs.take (m + k) := List.take_add.symm

theorem boolAt_of_le (h : numAt bs o 1 ≤ 1) : boolAt bs o = some (numAt bs o 1 == 1) := by
  rw [boolAt_iff]
  rcases Nat.le_one_iff_eq_zero_or_eq_one.1 h with e | e <;> rw [e] <;> rfl

theorem le_of_boolAt {b : Bool} (h : boolAt bs o = some b) : numAt bs o 1 ≤ 1 := by
  rw [(boolAt_iff bs o b).1 h]
  exact b.toNat_le

theorem finAt_two_of_le (h : numAt bs o 1 ≤ 1) : finAt 2 bs o = some (oneOfTwo (numAt bs o 1)) := by
  rw [finAt_iff]
  rcases Nat.le_one_iff_eq_zero_or_eq_one.1 h with e | e <;> rw [e] <;> rfl

theorem lt_of_finAt {n : Nat} {i : Fin n} (h : finAt n bs o = some i) : numAt bs o 1 < n := by
  rw [(finAt_iff n bs o i).1 h]
  exact i.isLt

end

/-! ## The fields of each entry's bytes -/

section
variable {bs : List Byte}

theorem LineEntry.ofBytes_eq (bs : List Byte) :
    LineEntry.ofBytes bs = ⟨min (numAt bs 0 4) 16777215, min (numAt bs 4 4) 65535⟩ := by
  rw [LineEntry.ofBytes, clampTo, clampTo, Nat.zero_max, Nat.zero_max]

/-- The fields of a PROFILE write are within their values (R68). -/
def ProfileEntry.InRange (bs : List Byte) : Prop :=
  numAt bs 0 1 ≤ 1 ∧ numAt bs 1 2 ≤ 2044 ∧ numAt bs 3 2 ≤ 2046 ∧ numAt bs 5 2 ≤ 2040 ∧
    (numAt bs 7 1 = 4 ∨ numAt bs 7 1 = 8) ∧ numAt bs 8 1 ≤ 1 ∧ numAt bs 9 2 ≤ 2046 ∧ numAt bs 11 1 ≤ 2 ∧
    numAt bs 12 1 ≤ 1 ∧ numAt bs 13 1 ≤ 1

/-- The PROFILE entry that a write's bytes say. -/
def ProfileEntry.given (bs : List Byte) : ProfileEntry :=
  ⟨numAt bs 0 1 == 1, numAt bs 1 2, numAt bs 3 2, numAt bs 5 2, numAt bs 7 1, numAt bs 8 1 == 1, numAt bs 9 2,
    numAt bs 11 1, numAt bs 12 1 == 1, oneOfTwo (numAt bs 13 1)⟩

theorem ProfileEntry.ofBytes_of_inRange (h : ProfileEntry.InRange bs) :
    ProfileEntry.ofBytes bs = some (ProfileEntry.given bs) := by
  obtain ⟨henabled, hkey1, hkey2, hsequence, hwidth, hlittle, hcount, hcountWidth, hdrop, hline⟩ := h
  simp only [ProfileEntry.ofBytes, boolAt_of_le henabled, boolAt_of_le hlittle, boolAt_of_le hdrop, finAt_two_of_le hline]
  exact if_pos ⟨hkey1, hkey2, hsequence, hwidth, hcount, hcountWidth⟩

theorem ProfileEntry.inRange_of_ofBytes {e : ProfileEntry} (h : ProfileEntry.ofBytes bs = some e) :
    ProfileEntry.InRange bs := by
  unfold ProfileEntry.ofBytes at h
  split at h
  · rename_i henabled hlittle hdrop hline
    dsimp only at h
    split_ifs at h with hfields
    obtain ⟨hkey1, hkey2, hsequence, hwidth, hcount, hcountWidth⟩ := hfields
    exact ⟨le_of_boolAt henabled, hkey1, hkey2, hsequence, hwidth, le_of_boolAt hlittle, hcount, hcountWidth,
      le_of_boolAt hdrop, Nat.le_of_lt_succ (lt_of_finAt hline)⟩
  · cases h

theorem ProfileEntry.ofBytes_of_not_inRange (h : ¬ProfileEntry.InRange bs) : ProfileEntry.ofBytes bs = none :=
  Option.eq_none_iff_forall_ne_some.2 fun _ he => h (ProfileEntry.inRange_of_ofBytes he)

theorem ProfileEntry.eq_given_of_ofBytes {e : ProfileEntry} (h : ProfileEntry.ofBytes bs = some e) :
    e = ProfileEntry.given bs :=
  Option.some.inj (h.symm.trans (ProfileEntry.ofBytes_of_inRange (ProfileEntry.inRange_of_ofBytes h)))

/-- The CHANNEL entry of a write that names an existing pair (R69). -/
theorem ChannelEntry.ofBytes_of_pair {q : PairId} (henabled : numAt bs 0 1 ≤ 1) (hpair : numAt bs 1 1 = q.val) :
    ChannelEntry.ofBytes bs =
      some ⟨numAt bs 0 1 == 1, q, macAt bs 2, numAt bs 8 2, storedExponent (numAt bs 10 1)⟩ := by
  simp only [ChannelEntry.ofBytes, boolAt_of_le henabled, (finAt_iff 4 bs 1 q).2 hpair]

theorem ChannelEntry.of_ofBytes {e : ChannelEntry} (h : ChannelEntry.ofBytes bs = some e) :
    numAt bs 0 1 ≤ 1 ∧ numAt bs 1 1 = e.pair.val ∧
      e = ⟨numAt bs 0 1 == 1, e.pair, macAt bs 2, numAt bs 8 2, storedExponent (numAt bs 10 1)⟩ := by
  unfold ChannelEntry.ofBytes at h
  split at h
  · rename_i henabled hpair
    obtain rfl := Option.some.inj h
    have hle := le_of_boolAt henabled
    rw [boolAt_of_le hle] at henabled
    exact ⟨hle, (finAt_iff 4 bs 1 _).1 hpair, by rw [Option.some.inj henabled]⟩
  · cases h

/-- The REFERENCE entry that a write's bytes say, each number held to its range (R34). -/
def ReferenceEntry.given (bs : List Byte) : ReferenceEntry :=
  ⟨numAt bs 0 1 == 1, min (numAt bs 1 4) 16777215, max 2 (min (numAt bs 5 1) 255), max 16 (min (numAt bs 6 2) 65535)⟩

theorem ReferenceEntry.ofBytes_of_le (h : numAt bs 0 1 ≤ 1) :
    ReferenceEntry.ofBytes bs = some (ReferenceEntry.given bs) := by
  rw [ReferenceEntry.ofBytes, boolAt_of_le h, Option.map_some, clampTo, Nat.zero_max]
  rfl

theorem ReferenceEntry.le_of_ofBytes {e : ReferenceEntry} (h : ReferenceEntry.ofBytes bs = some e) :
    numAt bs 0 1 ≤ 1 := by
  obtain ⟨b, hb, -⟩ := Option.map_eq_some_iff.1 h
  exact le_of_boolAt hb

/-- The TIMEBASE entry that a write's bytes say, each number held to its range (R23). -/
def TimebaseEntry.given (bs : List Byte) : TimebaseEntry :=
  ⟨max 100 (min (numAt bs 0 4) 1000000), max 10 (min (numAt bs 4 4) 65535), max 1 (min (numAt bs 8 1) 15),
    min (numAt bs 9 1) 4, min (numAt bs 10 4) 65535, oneOfTwo (numAt bs 14 1), numAt bs 15 1 == 1⟩

theorem TimebaseEntry.ofBytes_of_le (hpreferred : numAt bs 14 1 ≤ 1) (hrevertive : numAt bs 15 1 ≤ 1) :
    TimebaseEntry.ofBytes bs = some (TimebaseEntry.given bs) := by
  simp only [TimebaseEntry.ofBytes, finAt_two_of_le hpreferred, boolAt_of_le hrevertive, clampTo, Nat.zero_max]
  rfl

theorem TimebaseEntry.le_of_ofBytes {e : TimebaseEntry} (h : TimebaseEntry.ofBytes bs = some e) :
    numAt bs 14 1 ≤ 1 ∧ numAt bs 15 1 ≤ 1 := by
  unfold TimebaseEntry.ofBytes at h
  split at h
  · rename_i hpreferred hrevertive
    exact ⟨Nat.le_of_lt_succ (lt_of_finAt hpreferred), le_of_boolAt hrevertive⟩
  · cases h

/-- The fields of a NOTICE write are within their values (R165). -/
def NoticeEntry.InRange (bs : List Byte) : Prop := (∀ o, o < 5 → numAt bs o 1 ≤ 1) ∧ numAt bs 11 1 ≤ 1

/-- The NOTICE entry that a write's bytes say, each rank held to its range (R165). -/
def NoticeEntry.given (bs : List Byte) : NoticeEntry :=
  ⟨numAt bs 0 1 == 1, #v[numAt bs 1 1 == 1, numAt bs 2 1 == 1, numAt bs 3 1 == 1, numAt bs 4 1 == 1],
    #v[min (numAt bs 5 1) 3, min (numAt bs 6 1) 3, min (numAt bs 7 1) 3, min (numAt bs 8 1) 3], numAt bs 9 2,
    oneOfTwo (numAt bs 11 1), macAt bs 12⟩

theorem NoticeEntry.ofBytes_of_inRange (h : NoticeEntry.InRange bs) :
    NoticeEntry.ofBytes bs = some (NoticeEntry.given bs) := by
  obtain ⟨hflags, hline⟩ := h
  simp only [NoticeEntry.ofBytes, boolAt_of_le (hflags 0 (by decide)), boolAt_of_le (hflags 1 (by decide)),
    boolAt_of_le (hflags 2 (by decide)), boolAt_of_le (hflags 3 (by decide)), boolAt_of_le (hflags 4 (by decide)),
    finAt_two_of_le hline, clampTo, Nat.zero_max]
  rfl

theorem NoticeEntry.inRange_of_ofBytes {e : NoticeEntry} (h : NoticeEntry.ofBytes bs = some e) :
    NoticeEntry.InRange bs := by
  unfold NoticeEntry.ofBytes at h
  split at h
  · rename_i h0 h1 h2 h3 h4 hline
    refine ⟨fun o ho => ?_, Nat.le_of_lt_succ (lt_of_finAt hline)⟩
    match o, ho with
    | 0, _ => exact le_of_boolAt h0
    | 1, _ => exact le_of_boolAt h1
    | 2, _ => exact le_of_boolAt h2
    | 3, _ => exact le_of_boolAt h3
    | 4, _ => exact le_of_boolAt h4
  · cases h

theorem DeliveryTableEntry.ofBytes_of_order {order : Fin 6} (horder : numAt bs 0 1 = order.val)
    (hrotating : numAt bs 1 1 ≤ 1) : DeliveryTableEntry.ofBytes bs = some ⟨order, numAt bs 1 1 == 1⟩ := by
  simp only [DeliveryTableEntry.ofBytes, (finAt_iff 6 bs 0 order).2 horder, boolAt_of_le hrotating]

theorem DeliveryTableEntry.of_ofBytes {e : DeliveryTableEntry} (h : DeliveryTableEntry.ofBytes bs = some e) :
    numAt bs 0 1 = e.groupOrder.val ∧ numAt bs 1 1 ≤ 1 ∧ e = ⟨e.groupOrder, numAt bs 1 1 == 1⟩ := by
  unfold DeliveryTableEntry.ofBytes at h
  split at h
  · rename_i horder hrotating
    obtain rfl := Option.some.inj h
    have hle := le_of_boolAt hrotating
    rw [boolAt_of_le hle] at hrotating
    exact ⟨(finAt_iff 6 bs 0 _).1 horder, hle, by rw [Option.some.inj hrotating]⟩
  · cases h

/-! ## An entry in range reads back as written (R157, R176) -/

theorem LineEntry.layout_ofBytes (hlength : bs.length = 8) (h : (LineEntry.ofBytes bs).wasClamped bs = false) :
    (LineEntry.ofBytes bs).layout = bs := by
  rw [LineEntry.wasClamped, Bool.or_eq_false_iff, bne_eq_false_iff_eq, bne_eq_false_iff_eq] at h
  obtain ⟨hdelay, hlimit⟩ := h
  rw [LineEntry.layout, hdelay, hlimit, field_numAt (by omega), field_numAt (by omega), slice_zero, take_slice]
  exact List.take_of_length_le hlength.le

theorem ProfileEntry.layout_ofBytes {e : ProfileEntry} (hlength : bs.length = 14) (h : ProfileEntry.ofBytes bs = some e) :
    e.layout = bs := by
  obtain ⟨henabled, -, -, -, -, hlittle, -, -, hdrop, hline⟩ := ProfileEntry.inRange_of_ofBytes h
  rw [ProfileEntry.eq_given_of_ofBytes h, ProfileEntry.layout, ProfileEntry.given]
  rw [boolField_numAt (by omega) henabled, boolField_numAt (by omega) hlittle, boolField_numAt (by omega) hdrop,
    field_oneOfTwo (by omega) hline]
  rw [field_numAt (by omega), field_numAt (by omega), field_numAt (by omega), field_numAt (by omega),
    field_numAt (by omega), field_numAt (by omega), slice_zero]
  simp only [take_slice, Nat.reduceAdd]
  exact List.take_of_length_le hlength.le

theorem ChannelEntry.layout_ofBytes {e : ChannelEntry} (hlength : bs.length = 11) (h : ChannelEntry.ofBytes bs = some e)
    (hexponent : e.resetExponent = numAt bs 10 1) : e.layout = bs := by
  obtain ⟨henabled, hpair, he⟩ := ChannelEntry.of_ofBytes h
  rw [ChannelEntry.layout, hexponent, ← hpair, he]
  rw [boolField_numAt (by omega) henabled, macField_macAt (by omega), field_numAt (by omega), field_numAt (by omega),
    field_numAt (by omega), slice_zero]
  simp only [take_slice, Nat.reduceAdd]
  exact List.take_of_length_le hlength.le

theorem ReferenceEntry.layout_ofBytes {e : ReferenceEntry} (hlength : bs.length = 8)
    (h : ReferenceEntry.ofBytes bs = some e) (hclamped : e.wasClamped bs = false) : e.layout = bs := by
  have henabled := ReferenceEntry.le_of_ofBytes h
  obtain rfl := Option.some.inj ((ReferenceEntry.ofBytes_of_le henabled).symm.trans h)
  simp only [ReferenceEntry.wasClamped, Bool.or_eq_false_iff, bne_eq_false_iff_eq] at hclamped
  obtain ⟨⟨hdelay, hcount⟩, htolerance⟩ := hclamped
  rw [ReferenceEntry.layout, hdelay, hcount, htolerance, ReferenceEntry.given]
  rw [boolField_numAt (by omega) henabled, field_numAt (by omega), field_numAt (by omega), field_numAt (by omega),
    slice_zero]
  simp only [take_slice, Nat.reduceAdd]
  exact List.take_of_length_le hlength.le

theorem TimebaseEntry.layout_ofBytes {e : TimebaseEntry} (hlength : bs.length = 16)
    (h : TimebaseEntry.ofBytes bs = some e) (hclamped : e.wasClamped bs = false) : e.layout = bs := by
  obtain ⟨hpreferred, hrevertive⟩ := TimebaseEntry.le_of_ofBytes h
  obtain rfl := Option.some.inj ((TimebaseEntry.ofBytes_of_le hpreferred hrevertive).symm.trans h)
  simp only [TimebaseEntry.wasClamped, Bool.or_eq_false_iff, bne_eq_false_iff_eq] at hclamped
  obtain ⟨⟨⟨⟨hthreshold, hlock⟩, hcount⟩, hgain⟩, hlimit⟩ := hclamped
  rw [TimebaseEntry.layout, hthreshold, hlock, hcount, hgain, hlimit, TimebaseEntry.given]
  rw [field_oneOfTwo (by omega) hpreferred, boolField_numAt (by omega) hrevertive, field_numAt (by omega),
    field_numAt (by omega), field_numAt (by omega), field_numAt (by omega), field_numAt (by omega), slice_zero]
  simp only [take_slice, Nat.reduceAdd]
  exact List.take_of_length_le hlength.le

theorem NoticeEntry.layout_ofBytes {e : NoticeEntry} (hlength : bs.length = 18)
    (h : NoticeEntry.ofBytes bs = some e) (hclamped : noticeClamped bs = false) : e.layout = bs := by
  have hrange := NoticeEntry.inRange_of_ofBytes h
  obtain rfl := Option.some.inj ((NoticeEntry.ofBytes_of_inRange hrange).symm.trans h)
  obtain ⟨hflags, hline⟩ := hrange
  simp only [noticeClamped, Bool.or_eq_false_iff, decide_eq_false_iff_not, Nat.not_lt] at hclamped
  obtain ⟨⟨⟨htime, hlink⟩, hfeed⟩, hmanagement⟩ := hclamped
  have flag (o : Nat) (ho : o < 5) : boolField (numAt bs o 1 == 1) = slice bs o 1 :=
    boolField_numAt (by omega) (hflags o ho)
  have layout : (NoticeEntry.given bs).layout =
      boolField (numAt bs 0 1 == 1) ++ boolField (numAt bs 1 1 == 1) ++ boolField (numAt bs 2 1 == 1) ++
      boolField (numAt bs 3 1 == 1) ++ boolField (numAt bs 4 1 == 1) ++ field 1 (min (numAt bs 5 1) 3) ++
      field 1 (min (numAt bs 6 1) 3) ++ field 1 (min (numAt bs 7 1) 3) ++ field 1 (min (numAt bs 8 1) 3) ++
      field 2 (numAt bs 9 2) ++ field 1 (oneOfTwo (numAt bs 11 1)).val ++ macField (macAt bs 12) := by
    simp [NoticeEntry.layout, NoticeEntry.given]
  rw [layout, Nat.min_eq_left htime, Nat.min_eq_left hlink, Nat.min_eq_left hfeed, Nat.min_eq_left hmanagement]
  rw [flag 0 (by decide), flag 1 (by decide), flag 2 (by decide), flag 3 (by decide), flag 4 (by decide),
    field_oneOfTwo (by omega) hline, macField_macAt (by omega), field_numAt (by omega), field_numAt (by omega),
    field_numAt (by omega), field_numAt (by omega), field_numAt (by omega), slice_zero]
  simp only [take_slice, Nat.reduceAdd]
  exact List.take_of_length_le hlength.le

theorem DeliveryTableEntry.layout_ofBytes {e : DeliveryTableEntry} (hlength : bs.length = 2)
    (h : DeliveryTableEntry.ofBytes bs = some e) : e.layout = bs := by
  obtain ⟨horder, hrotating, he⟩ := DeliveryTableEntry.of_ofBytes h
  rw [DeliveryTableEntry.layout, ← horder, he]
  rw [boolField_numAt (by omega) hrotating, field_numAt (by omega), slice_zero, take_slice]
  exact List.take_of_length_le hlength.le

end

/-! ## TABLE_READ (R157) -/

theorem exec_tableRead {s : State} {c : CommandInFlight} {table : TableId} {start count : Nat}
    (h : s.Serving c (.tableRead table start count)) :
    exec .tableRead s = .next (s.afterRequest c .done (s.tables.readData table start count)) := by
  rw [exec, execTableRead, h.served _ rfl, State.answer]

theorem layout_length_of_entry {α : Type} {n k i : Nat} {layout : α → List Byte} (entries : Vector α n)
    (hlayout : ∀ e, (layout e).length = k) (h : i < n) : ((entries[i]?.map layout).getD []).length = k := by
  rw [Vector.getElem?_eq_getElem h]
  exact hlayout _

/-- Each entry of a table has the bytes of its size (R176). -/
theorem Tables.entryBytes_length (t : Tables) (table : TableId) (i : Nat) (h : i < table.entries) :
    (t.entryBytes table i).length = table.entrySize := by
  cases table with
  | line => exact layout_length_of_entry t.line (fun e => by simp [LineEntry.layout, TableId.entrySize]) h
  | profile => exact layout_length_of_entry t.profile (fun e => by simp [ProfileEntry.layout, TableId.entrySize]) h
  | channel => exact layout_length_of_entry t.channel (fun e => by simp [ChannelEntry.layout, TableId.entrySize]) h
  | reference => exact layout_length_of_entry t.reference (fun e => by simp [ReferenceEntry.layout, TableId.entrySize]) h
  | timebase => simp [Tables.entryBytes, TableId.entrySize, TimebaseEntry.layout, Nat.lt_one_iff.1 h]
  | notice =>
    have hmasks : (t.notice.masks.toList.flatMap boolField).length = 4 :=
      (flatMap_length fun b _ => boolField_length b).trans (by simp)
    have hranks : (t.notice.ranks.toList.flatMap (field 1)).length = 4 :=
      (flatMap_length fun v _ => field_length 1 v).trans (by simp)
    rw [Tables.entryBytes, if_pos (Nat.lt_one_iff.1 h)]
    simp only [NoticeEntry.layout, List.length_append, hmasks, hranks, boolField_length, field_length, macField_length,
      TableId.entrySize]
  | delivery => exact layout_length_of_entry t.delivery (fun e => by simp [DeliveryTableEntry.layout, TableId.entrySize]) h

/-- Settles O39: the entries of a table one by one, and the round trip of each layout. -/
theorem tableReadReturnsEntries : Obligations.TableReadReturnsEntries := by
  refine ⟨fun s c table start count hrange h => ?_, fun bs => LineEntry.layout_ofBytes,
    fun bs e => ProfileEntry.layout_ofBytes, fun bs e => ChannelEntry.layout_ofBytes,
    fun bs e => ReferenceEntry.layout_ofBytes, fun bs e => TimebaseEntry.layout_ofBytes,
    fun bs e => NoticeEntry.layout_ofBytes, fun bs e => DeliveryTableEntry.layout_ofBytes⟩
  have hentry : ∀ i ∈ List.range count, (s.tables.entryBytes table (start + i)).length = table.entrySize := fun i hi =>
    s.tables.entryBytes_length table _ (by have := List.mem_range.1 hi; omega)
  refine ⟨_, exec_tableRead h, ?_, fun i hi => ?_⟩
  · exact (flatMap_length hentry).trans (by rw [List.length_range, Nat.mul_comm])
  · have hslice := slice_flatMap hentry [] i (by rwa [List.length_range])
    rw [List.append_nil, List.getElem_range, Nat.mul_comm] at hslice
    exact hslice

end Sys2Proof.Machine
end

section
/-! Entry writes of the LINE, PROFILE and CHANNEL tables (R56, R67 to R70, R158). -/

namespace Sys2Proof.Machine

/-! ## The row of an entry write (R158) -/

section
variable {s : State} {c : CommandInFlight} {table : TableId} {entries : List (List Byte)} {i : Nat} {bs : List Byte}

theorem State.WritingEntry.accepted (h : s.WritingEntry c table entries i bs) {clamped : Bool} {t : State}
    (hwrite : s.entryWrite table i bs = .accepted clamped t) :
    s.whenReleased (·.serveEntry table) = t.acceptEntry c entries.length clamped := by
  obtain ⟨start, ⟨hclock, hunit, hcurrent⟩, hentry, rfl⟩ := h
  rw [s.serveEntry_of_current c table start entries bs hclock hunit hcurrent hentry, hwrite]

theorem State.WritingEntry.refused (h : s.WritingEntry c table entries i bs) {st : Status}
    (hwrite : s.entryWrite table i bs = .refused st) : s.whenReleased (·.serveEntry table) = s.refuseEntry c st := by
  obtain ⟨start, ⟨hclock, hunit, hcurrent⟩, hentry, rfl⟩ := h
  rw [s.serveEntry_of_current c table start entries bs hclock hunit hcurrent hentry, hwrite]

end

/-! ## LINE (R56) -/

section
variable {s : State} {l : LineId}

theorem State.expireSilence_of_stopped (h : s.lines[l].silenceStart = none) : s.expireSilence l = s := by
  simp only [State.expireSilence, State.silenceExpiry, h, Option.map_none]

theorem State.expireSilence_not_reached {t : Nat} (h : s.lines[l].silenceStart = some t)
    (hlater : s.tick < t + s.tables.line[l].silenceLimit * 400000) : s.expireSilence l = s := by
  simp only [State.expireSilence, State.silenceExpiry, h, Option.map_some]
  exact if_neg (Nat.not_le.2 hlater)

theorem State.expireSilence_reached {t : Nat} (h : s.lines[l].silenceStart = some t)
    (hreached : t + s.tables.line[l].silenceLimit * 400000 ≤ s.tick) : s.expireSilence l =
      (s.setLine l { s.lines[l] with silenceStart := none, silent := true }).raise (sourceSilent l) := by
  simp only [State.expireSilence, State.silenceExpiry, h, Option.map_some]
  exact if_pos hreached

/-- The line and its table entry after a LINE write, before an expiry that is already due. -/
def State.storeLine (s : State) (l : LineId) (e : LineEntry) (f : FeedLine) : State :=
  { s with tables := { s.tables with line := s.tables.line.set l e }, lines := s.lines.set l f }

theorem State.storeLine_line (s : State) (l : LineId) (e : LineEntry) (f : FeedLine) :
    (s.storeLine l e f).lines[l] = f := vector_getElem_set _ _ _

theorem State.storeLine_entry (s : State) (l : LineId) (e : LineEntry) (f : FeedLine) :
    (s.storeLine l e f).tables.line[l] = e := vector_getElem_set _ _ _

section
variable {e : LineEntry} {f : FeedLine}

theorem State.writeLine_eq (hf : s.lines[l].newLimit e.silenceLimit s.tick = f) :
    s.writeLine l e = (s.storeLine l e f).expireSilence l := by
  rw [← hf]
  rfl

theorem State.writeLine_stopped (hf : s.lines[l].newLimit e.silenceLimit s.tick = f) (h : f.silenceStart = none) :
    s.writeLine l e = s.storeLine l e f := by
  rw [State.writeLine_eq hf, State.expireSilence_of_stopped (by rw [s.storeLine_line, h])]

theorem State.writeLine_running {t : Nat} (hf : s.lines[l].newLimit e.silenceLimit s.tick = f)
    (h : f.silenceStart = some t) (hlater : s.tick < t + e.silenceLimit * 400000) :
    s.writeLine l e = s.storeLine l e f := by
  rw [State.writeLine_eq hf, State.expireSilence_not_reached (t := t) (by rw [s.storeLine_line, h])
    (by rw [s.storeLine_entry]; exact hlater)]

theorem State.writeLine_reached {t : Nat} (hf : s.lines[l].newLimit e.silenceLimit s.tick = f)
    (h : f.silenceStart = some t) (hreached : t + e.silenceLimit * 400000 ≤ s.tick) : s.writeLine l e =
      (s.storeLine l e { f with silenceStart := none, silent := true }).raise (sourceSilent l) := by
  rw [State.writeLine_eq hf, State.expireSilence_reached (t := t) (by rw [s.storeLine_line, h])
    (by rw [s.storeLine_entry]; exact hreached), s.storeLine_line, State.storeLine, State.setLine, Vector.set_set]
  rfl

end

end

section
variable {f : FeedLine} {limit : Nat}

theorem FeedLine.newLimit_running {t : Nat} (tick : Nat) (h : f.silenceStart = some t) (hlimit : limit ≠ 0) :
    f.newLimit limit tick = f := by
  simp only [FeedLine.newLimit, h, if_neg hlimit]

theorem FeedLine.newLimit_stops (tick : Nat) (h : f.silenceStart ≠ none) :
    f.newLimit 0 tick = { f with silenceStart := none } := by
  obtain ⟨t, ht⟩ := Option.ne_none_iff_exists'.1 h
  simp only [FeedLine.newLimit, ht, if_true]

theorem FeedLine.newLimit_silent (tick : Nat) (h : f.silenceStart = none) (hsilent : f.silent = true) :
    f.newLimit limit tick = if limit = 0 then { f with silent := false } else f := by
  simp only [FeedLine.newLimit, h, hsilent, if_true]

theorem FeedLine.newLimit_stopped (tick : Nat) (h : f.silenceStart = none) (hsilent : f.silent = false) :
    f.newLimit limit tick =
      if f.link = .up ∧ f.mode ≠ .off ∧ limit ≠ 0 then { f with silenceStart := some tick } else f := by
  simp only [FeedLine.newLimit, h, hsilent, Bool.false_eq_true, if_false]

end

theorem LineEntry.wasClamped_eq (bs : List Byte) : (LineEntry.ofBytes bs).wasClamped bs =
    decide (16777215 < numAt bs 0 4 ∨ 65535 < numAt bs 4 4) := by
  rw [Bool.eq_iff_iff, decide_eq_true_eq, LineEntry.ofBytes_eq, LineEntry.wasClamped, Bool.or_eq_true, bne_iff_ne,
    bne_iff_ne]
  dsimp only
  omega

/-- Settles O40: the entry, then the silence timer by what it was and by the new limit. -/
theorem lineEntryWrites : Obligations.LineEntryWrites := by
  intro s c entries i bs hwriting limit entry clamped
  refine ⟨fun hi => congrArg _ (hwriting.refused (dif_neg (Nat.not_lt.2 hi))), fun l hl => ?_⟩
  subst hl
  intro f stored accept
  have written {t : State} (h : s.writeLine l entry = t) : exec .lineEntryWrite s = accept t := by
    refine congrArg _ (hwriting.accepted ((dif_pos l.isLt).trans ?_))
    rw [LineEntry.wasClamped_eq, LineEntry.ofBytes_eq]
    exact congrArg (EntryOutcome.accepted clamped) h
  refine ⟨fun t hstart hlimit hlater => ?_, fun t hstart hlimit hreached => ?_, fun hrunning hlimit => ?_,
    fun hstopped hsilent hlimit hup hmode => ?_, fun hstopped hsilent hlimit => ?_, fun hstopped hsilent hlimit => ?_,
    fun hstopped hsilent hnot => ?_⟩
  · exact written (State.writeLine_running (FeedLine.newLimit_running s.tick hstart hlimit) hstart hlater)
  · exact written (State.writeLine_reached (FeedLine.newLimit_running s.tick hstart hlimit) hstart hreached)
  · have hentry : entry.silenceLimit = 0 := hlimit
    refine written (State.writeLine_stopped (f := { f with silenceStart := none }) ?_ rfl)
    rw [hentry]
    exact FeedLine.newLimit_stops s.tick hrunning
  · refine written (State.writeLine_running (f := { f with silenceStart := some s.tick }) ?_ rfl ?_)
    · exact (FeedLine.newLimit_stopped s.tick hstopped hsilent).trans (if_pos ⟨hup, hmode, hlimit⟩)
    · exact Nat.lt_add_of_pos_right (Nat.mul_pos (Nat.pos_of_ne_zero hlimit) (by decide))
  · exact written (State.writeLine_stopped
      ((FeedLine.newLimit_silent s.tick hstopped hsilent).trans (if_neg hlimit)) hstopped)
  · exact written (State.writeLine_stopped (f := { f with silent := false })
      ((FeedLine.newLimit_silent s.tick hstopped hsilent).trans (if_pos hlimit)) hstopped)
  · refine written (State.writeLine_stopped
      ((FeedLine.newLimit_stopped s.tick hstopped hsilent).trans (if_neg ?_)) hstopped)
    rintro ⟨hup, hmode, hlimit⟩
    rcases hnot with h | h | h
    · exact hlimit h
    · rw [hup] at h
      cases h
    · exact hmode h

/-! ## PROFILE (R67, R68) -/

/-- Settles O41: the index, then the gate, then the values. -/
theorem profileEntryWrites : Obligations.ProfileEntryWrites := by
  intro s c entries i bs hwriting good live
  refine ⟨fun hi => congrArg _ (hwriting.refused (dif_neg (Nat.not_lt.2 hi))), fun p hp => ?_⟩
  subst hp
  have gated (h : ¬live p) : ¬s.pairLive p = true := mt (s.pairLive_iff p).1 h
  refine ⟨fun hlive => ?_, fun hlive hbad => ?_, fun hlive hgood => ?_⟩
  · exact congrArg _ (hwriting.refused ((dif_pos p.isLt).trans (if_pos ((s.pairLive_iff p).2 hlive))))
  · refine congrArg _ (hwriting.refused ((dif_pos p.isLt).trans ((if_neg (gated hlive)).trans ?_)))
    rw [ProfileEntry.ofBytes_of_not_inRange hbad]
  · refine congrArg _ (hwriting.accepted ((dif_pos p.isLt).trans ((if_neg (gated hlive)).trans ?_)))
    rw [ProfileEntry.ofBytes_of_inRange hgood]
    rfl

/-! ## CHANNEL (R67, R69, R70) -/

theorem State.channelGate_iff (s : State) (ch : ChannelId) (e : ChannelEntry) : s.channelGate ch e = true ↔
    (s.tables.channel[ch].enabled = true ∧ s.pairLive s.tables.channel[ch].pair = true) ∨
      (e.enabled = true ∧ s.pairLive e.pair = true) := by
  simp only [State.channelGate, Bool.or_eq_true, Bool.and_eq_true]

theorem State.duplicateKey_iff (s : State) (ch : ChannelId) (e : ChannelEntry) : s.duplicateKey ch e = true ↔
    e.enabled = true ∧ ∃ o : ChannelId, o ≠ ch ∧ s.tables.channel[o].enabled = true ∧
      s.tables.channel[o].pair = e.pair ∧ s.tables.channel[o].key = e.key := by
  simp only [State.duplicateKey, ChannelEntry.belongsTo, Bool.and_eq_true, List.any_eq_true, List.mem_finRange, true_and,
    bne_iff_ne, beq_iff_eq, and_assoc]

theorem ChannelEntry.ofBytes_of_bad {bs : List Byte} (h : 1 < numAt bs 0 1 ∨ 3 < numAt bs 1 1) :
    ChannelEntry.ofBytes bs = none := by
  refine Option.eq_none_iff_forall_ne_some.2 fun e he => ?_
  obtain ⟨henabled, hpair, -⟩ := ChannelEntry.of_ofBytes he
  have hlt := e.pair.isLt
  omega

/-- Settles O42: the index, the values, the gate, the duplicate key, then the write. -/
theorem channelEntryWrites : Obligations.ChannelEntryWrites := by
  intro s c entries i bs hwriting live exponent
  refine ⟨fun hi => congrArg _ (hwriting.refused (dif_neg (Nat.not_lt.2 hi))), fun ch hch => ?_⟩
  subst hch
  refine ⟨fun hbad => ?_, fun q henabled hpair => ?_⟩
  · refine congrArg _ (hwriting.refused ((dif_pos ch.isLt).trans ?_))
    rw [ChannelEntry.ofBytes_of_bad hbad]
  intro entry gate duplicate
  have hentry : ChannelEntry.ofBytes bs = some entry := ChannelEntry.ofBytes_of_pair henabled hpair
  have hgate : s.channelGate ch entry = true ↔ gate := by
    rw [s.channelGate_iff, s.pairLive_iff, s.pairLive_iff]
    exact or_congr_right (and_congr_left' beq_iff_eq)
  have hduplicate : s.duplicateKey ch entry = true ↔ duplicate := by
    rw [s.duplicateKey_iff]
    exact and_congr_left' beq_iff_eq
  have hwrite : s.entryWrite .channel ch.val bs =
      if s.channelGate ch entry then .refused .busy
      else if s.duplicateKey ch entry then .refused .badArgument
      else .accepted (entry.resetExponent != numAt bs 10 1) (s.writeChannel ch entry) := by
    refine (dif_pos ch.isLt).trans ?_
    rw [hentry]
  refine ⟨fun h => ?_, fun hopen h => ?_, fun hopen hnew => ?_⟩
  · exact congrArg _ (hwriting.refused (hwrite.trans (if_pos (hgate.2 h))))
  · exact congrArg _ (hwriting.refused
      (hwrite.trans ((if_neg (mt hgate.1 hopen)).trans (if_pos (hduplicate.2 h)))))
  · exact congrArg _ (hwriting.accepted
      (hwrite.trans ((if_neg (mt hgate.1 hopen)).trans (if_neg (mt hduplicate.1 hnew)))))

end Sys2Proof.Machine
end

section
/-! Entry writes of the REFERENCE, TIMEBASE, DELIVERY and NOTICE tables (R20, R23, R33, R34, R143, R158, R165, R169). -/

namespace Sys2Proof.Machine

/-! ## REFERENCE (R33, R34) -/

theorem ReferenceEntry.wasClamped_given (bs : List Byte) : (ReferenceEntry.given bs).wasClamped bs =
    decide (16777215 < numAt bs 1 4 ∨ numAt bs 5 1 < 2 ∨ numAt bs 6 2 < 16) := by
  have hcount : numAt bs 5 1 < 256 := numAt_lt bs 5 1
  have htolerance : numAt bs 6 2 < 65536 := numAt_lt bs 6 2
  rw [Bool.eq_iff_iff, decide_eq_true_eq, ReferenceEntry.wasClamped, Bool.or_eq_true, Bool.or_eq_true, bne_iff_ne,
    bne_iff_ne, bne_iff_ne, ReferenceEntry.given]
  dsimp only
  omega

theorem ReferenceEntry.ofBytes_of_bad {bs : List Byte} (h : 1 < numAt bs 0 1) : ReferenceEntry.ofBytes bs = none :=
  Option.eq_none_iff_forall_ne_some.2 fun _ he => Nat.not_le.2 h (ReferenceEntry.le_of_ofBytes he)

theorem MonitorState.lossEvent_of_ne_good {m : MonitorState} (h : m ≠ .good) : m.lossEvent = .nothing := by
  cases m with
  | good => exact absurd rfl h
  | absent => rfl
  | qualifying => rfl

/-- The tables after a REFERENCE write. -/
def State.storeReference (s : State) (r : RefId) (e : ReferenceEntry) : State :=
  s.setTables { s.tables with reference := s.tables.reference.set r e }

theorem State.storeReference_entry (s : State) (r : RefId) (e : ReferenceEntry) :
    (s.storeReference r e).tables.reference[r] = e := vector_getElem_set _ _ _

section
variable {s : State} {r : RefId} {e : ReferenceEntry}

theorem State.writeReference_disables (hwas : s.tables.reference[r].enabled = true) (he : e.enabled = false) :
    s.writeReference r e = (s.storeReference r e).disableReference r := by
  simp only [State.writeReference, hwas, he, Bool.not_false, Bool.and_self, if_true]
  rfl

theorem State.writeReference_enables (hwas : s.tables.reference[r].enabled = false) (he : e.enabled = true) :
    s.writeReference r e = (s.storeReference r e).enableReference r := by
  simp only [State.writeReference, hwas, he, Bool.not_false, Bool.false_and, Bool.and_self, Bool.false_eq_true, if_false,
    if_true]
  rfl

theorem State.writeReference_keeps (h : s.tables.reference[r].enabled = e.enabled) :
    s.writeReference r e = (s.storeReference r e).expirePulse r := by
  have hon (b : Bool) : ¬(b && !b) = true := by cases b <;> nofun
  have hoff (b : Bool) : ¬(!b && b) = true := by cases b <;> nofun
  rw [State.writeReference, h, if_neg (hon _), if_neg (hoff _)]
  rfl

end

/-- Settles O43: the index and the flag, then the change of the flag, then the moved pulse timeout. -/
theorem referenceEntryWrites : Obligations.ReferenceEntryWrites := by
  intro s c entries i bs hwriting tolerance entry clamped
  refine ⟨fun hbad => ?_, fun r hr hflag => ?_⟩
  · refine congrArg _ (hwriting.refused ?_)
    change s.referenceWrite i bs = .refused .badArgument
    rw [State.referenceWrite]
    split_ifs with hi
    · rw [ReferenceEntry.ofBytes_of_bad (hbad.resolve_left (Nat.not_le.2 hi))]
    · rfl
  subst hr
  intro m was stored accept gone missed
  have written {t : State} (h : s.writeReference r entry = t) : exec .referenceEntryWrite s = accept t := by
    refine congrArg _ (hwriting.accepted ((dif_pos r.isLt).trans ?_))
    rw [ReferenceEntry.ofBytes_of_le hflag]
    dsimp only
    rw [ReferenceEntry.wasClamped_given]
    exact congrArg (EntryOutcome.accepted clamped) h
  have off (h : numAt bs 0 1 = 0) : entry.enabled = false := by
    change (numAt bs 0 1 == 1) = false
    rw [h]
    rfl
  have reached (hsame : was = (numAt bs 0 1 == 1)) (hstate : m.state ≠ .absent)
      (hpoint : m.refPoint.capture / 16 + 400000000 + tolerance + 1 ≤ s.tick) :
      s.writeReference r entry = (s.storeReference r entry).monitorEvent r missed m.state.lossEvent :=
    (State.writeReference_keeps (e := entry) hsame).trans
      ((s.storeReference r entry).expirePulse_reached r hstate (by rw [s.storeReference_entry]; exact hpoint))
  refine ⟨fun hwas hoff hstate => ?_, fun hwas hoff hstate => ?_, fun hwas hon => ?_, fun hsame hnot => ?_,
    fun hsame hpoint => ⟨fun hstate => ?_, fun hstate => ?_⟩⟩
  · refine written ((State.writeReference_disables hwas (off hoff)).trans ?_)
    have hloss : (s.storeReference r entry).monitors[r].state.lossEvent = .nothing :=
      MonitorState.lossEvent_of_ne_good hstate
    rw [State.disableReference, hloss]
    rfl
  · refine written ((State.writeReference_disables hwas (off hoff)).trans ?_)
    have hgood : (s.storeReference r entry).monitors[r].state = .good := hstate
    rw [State.disableReference, hgood]
    rfl
  · have he : entry.enabled = true := by
      change (numAt bs 0 1 == 1) = true
      rw [hon]
      rfl
    exact written (State.writeReference_enables hwas he)
  · refine written ((State.writeReference_keeps (e := entry) hsame).trans ?_)
    rw [State.expirePulse_not_reached _ r (by rw [s.storeReference_entry]; exact hnot)]
    change _ = (s.storeReference r entry).setMonitor r (s.storeReference r entry).monitors[r]
    rw [State.setMonitor_self]
  · refine written ((reached hsame (by rw [hstate]; nofun) hpoint).trans ?_)
    rw [hstate]
    rfl
  · refine written ((reached hsame (by rw [hstate]; nofun) hpoint).trans ?_)
    rw [hstate]
    rfl

/-! ## TIMEBASE and DELIVERY (R20, R23, R143) -/

theorem TimebaseEntry.wasClamped_given (bs : List Byte) : (TimebaseEntry.given bs).wasClamped bs =
    decide (numAt bs 0 4 < 100 ∨ 1000000 < numAt bs 0 4 ∨ numAt bs 4 4 < 10 ∨ 65535 < numAt bs 4 4 ∨
      numAt bs 8 1 < 1 ∨ 15 < numAt bs 8 1 ∨ 4 < numAt bs 9 1 ∨ 65535 < numAt bs 10 4) := by
  rw [Bool.eq_iff_iff, decide_eq_true_eq]
  simp only [TimebaseEntry.wasClamped, Bool.or_eq_true, bne_iff_ne, TimebaseEntry.given]
  omega

theorem TimebaseEntry.ofBytes_of_bad {bs : List Byte} (h : 1 < numAt bs 14 1 ∨ 1 < numAt bs 15 1) :
    TimebaseEntry.ofBytes bs = none := by
  refine Option.eq_none_iff_forall_ne_some.2 fun e he => ?_
  obtain ⟨hpreferred, hrevertive⟩ := TimebaseEntry.le_of_ofBytes he
  omega

theorem DeliveryTableEntry.ofBytes_of_bad {bs : List Byte} (h : 5 < numAt bs 0 1 ∨ 1 < numAt bs 1 1) :
    DeliveryTableEntry.ofBytes bs = none := by
  refine Option.eq_none_iff_forall_ne_some.2 fun e he => ?_
  obtain ⟨horder, hrotating, -⟩ := DeliveryTableEntry.of_ofBytes he
  have hlt := e.groupOrder.isLt
  omega

theorem State.expireHoldover_reached {s : State} (hstate : s.timeBase.state = .holdover)
    (hexpired : s.timeBase.holdoverExpired = false) (hlimit : s.tables.timebase.holdoverLimit ≠ 0)
    (hreached : s.timeBase.holdoverEntryTick + s.tables.timebase.holdoverLimit * 400000000 ≤ s.tick) :
    s.expireHoldover = (s.setTimeBase { s.timeBase with holdoverExpired := true }).raise sourceHoldoverExpired := by
  simp only [State.expireHoldover, s.holdoverExpiryTick_of_limit hstate hexpired hlimit, if_pos hreached]

theorem State.expireHoldover_not_due {s : State} (h : ¬(s.timeBase.state = .holdover ∧
    s.timeBase.holdoverExpired = false ∧ s.tables.timebase.holdoverLimit ≠ 0 ∧
    s.timeBase.holdoverEntryTick + s.tables.timebase.holdoverLimit * 400000000 ≤ s.tick)) : s.expireHoldover = s := by
  by_cases hruns : s.timeBase.state = .holdover ∧ s.tables.timebase.holdoverLimit ≠ 0 ∧
      s.timeBase.holdoverExpired = false
  · obtain ⟨hstate, hlimit, hexpired⟩ := hruns
    simp only [State.expireHoldover, s.holdoverExpiryTick_of_limit hstate hexpired hlimit]
    exact if_neg fun hreached => h ⟨hstate, hexpired, hlimit, hreached⟩
  · have htick : s.holdoverExpiryTick = none := if_neg hruns
    simp only [State.expireHoldover, htick]

/-- Settles O44: the index and the two flags, then the holdover expiry; and the two fields of a DELIVERY entry. -/
theorem timebaseAndDeliveryEntryWrites : Obligations.TimebaseAndDeliveryEntryWrites := by
  refine fun s c entries i bs => ⟨fun hwriting => ?_, fun hwriting => ⟨fun hbad => ?_, fun d order hd horder hflag => ?_⟩⟩
  · intro limit entry clamped stored due
    refine ⟨fun hbad => ?_, fun hi hpreferred hrevertive => ?_⟩
    · refine congrArg _ (hwriting.refused ?_)
      change s.timebaseWrite i bs = .refused .badArgument
      rw [State.timebaseWrite]
      split_ifs with hi
      · rw [TimebaseEntry.ofBytes_of_bad (hbad.resolve_left (not_not.2 hi))]
      · rfl
    · have written {t : State} (h : stored.expireHoldover = t) :
          exec .timebaseEntryWrite s = .next (t.acceptEntry c entries.length clamped) := by
        refine congrArg _ (hwriting.accepted ((if_pos hi).trans ?_))
        rw [TimebaseEntry.ofBytes_of_le hpreferred hrevertive]
        dsimp only
        rw [TimebaseEntry.wasClamped_given]
        exact congrArg (EntryOutcome.accepted clamped) h
      refine ⟨fun hnot => written (State.expireHoldover_not_due hnot), fun hdue => written ?_⟩
      obtain ⟨hstate, hexpired, hlimit, hreached⟩ := hdue
      exact State.expireHoldover_reached (s := stored) hstate hexpired hlimit hreached
  · refine congrArg _ (hwriting.refused ?_)
    change s.deliveryWrite i bs = .refused .badArgument
    rw [State.deliveryWrite]
    split_ifs with hi
    · rw [DeliveryTableEntry.ofBytes_of_bad (hbad.resolve_left (Nat.not_le.2 hi))]
    · rfl
  · subst hd
    refine congrArg _ (hwriting.accepted ((dif_pos d.isLt).trans ?_))
    rw [DeliveryTableEntry.ofBytes_of_order horder hflag]
    rfl

/-! ## NOTICE (R165, R169) -/

theorem noticeClamped_eq (bs : List Byte) : noticeClamped bs =
    decide (3 < numAt bs 5 1 ∨ 3 < numAt bs 6 1 ∨ 3 < numAt bs 7 1 ∨ 3 < numAt bs 8 1) := by
  simp only [noticeClamped, Bool.decide_or, Bool.or_assoc]

section
variable {s : State} {t : Nat}

theorem State.moveSpacing_stopped (h : s.notices.spacingStart = none) : s.moveSpacing = s := by
  simp only [State.moveSpacing, State.spacingExpiry, h, Option.map_none]

theorem State.moveSpacing_running (h : s.notices.spacingStart = some t) : s.moveSpacing =
    if s.tables.notice.spacing = 0 ∨ t + s.tables.notice.spacing * 400 ≤ s.tick then s.stopSpacing else s := by
  simp only [State.moveSpacing, State.spacingExpiry, h, Option.map_some, Config.ticksPerUs]

end

/-- Settles O45: the values, then the spacing timer under the new spacing. -/
theorem noticeEntryWrites : Obligations.NoticeEntryWrites := by
  intro s c entries i bs hwriting good rank entry clamped stored
  refine ⟨fun hbad => ?_, fun hgood => ?_⟩
  · refine congrArg _ (hwriting.refused ?_)
    change s.noticeWrite i bs = .refused .badArgument
    rw [State.noticeWrite]
    split_ifs with hi
    · have hnone : NoticeEntry.ofBytes bs = none :=
        Option.eq_none_iff_forall_ne_some.2 fun e he => hbad ⟨hi, NoticeEntry.inRange_of_ofBytes he⟩
      rw [hnone]
    · rfl
  · obtain ⟨hi, hrange⟩ := hgood
    have written {t : State} (h : stored.moveSpacing = t) :
        exec .noticeEntryWrite s = .next (t.acceptEntry c entries.length clamped) := by
      refine congrArg _ (hwriting.accepted ((if_pos hi).trans ?_))
      rw [NoticeEntry.ofBytes_of_inRange hrange, noticeClamped_eq]
      exact congrArg (EntryOutcome.accepted clamped) h
    refine ⟨fun t hstart hdue => written ?_, fun hlater => written ?_⟩
    · exact (State.moveSpacing_running (s := stored) hstart).trans (if_pos hdue)
    · rcases Option.eq_none_or_eq_some s.notices.spacingStart with hstopped | ⟨t, hstart⟩
      · exact State.moveSpacing_stopped (s := stored) hstopped
      · obtain ⟨hspacing, htick⟩ := hlater t hstart
        exact (State.moveSpacing_running (s := stored) hstart).trans
          (if_neg (not_or.2 ⟨hspacing, Nat.not_le.2 htick⟩))

end Sys2Proof.Machine
end

section
/-! SET_LINE_MODE, CLEAR_FEEDS and CLEAR_NOTICES (R42 to R44, R71, R95, R113, R170). -/

namespace Sys2Proof.Machine

/-! ## SET_LINE_MODE (R42 to R44, R71, R113) -/

theorem exec_setLineMode {s : State} {c : CommandInFlight} {l : LineId} {mode : LineMode}
    (h : s.Serving c (.setLineMode l mode)) :
    exec .setLineMode s = .next ((s.serveLineMode l mode).state.afterRequest c (s.serveLineMode l mode).status
      (s.serveLineMode l mode).data) := by
  rw [exec, execSetLineMode, h.served _ rfl]

section
variable {s : State} {l : LineId} {mode : LineMode}

theorem State.serveLineMode_busy (hmode : mode = .live) (hdisabled : s.tables.profile[pairOf l].enabled = false) :
    s.serveLineMode l mode = ⟨s, .busy, []⟩ := if_pos ⟨hmode, hdisabled⟩

/-- The profile lets the line be set to the mode (R71). -/
theorem State.not_busy (h : mode = .live → s.tables.profile[pairOf l].enabled = true) :
    ¬(mode = .live ∧ s.tables.profile[pairOf l].enabled = false) := fun ⟨hmode, hdisabled⟩ => by
  rw [h hmode] at hdisabled
  cases hdisabled

theorem State.serveLineMode_same (h : mode = .live → s.tables.profile[pairOf l].enabled = true)
    (hsame : s.lines[l].mode = mode) : s.serveLineMode l mode = ⟨s, .done, []⟩ := by
  rw [State.serveLineMode, if_neg (State.not_busy h), if_pos hsame]

theorem State.serveLineMode_changes (h : mode = .live → s.tables.profile[pairOf l].enabled = true)
    (hchange : s.lines[l].mode ≠ mode) : s.serveLineMode l mode = ⟨s.changeMode l mode, .done, []⟩ := by
  rw [State.serveLineMode, if_neg (State.not_busy h), if_neg hchange]

/-- A line that was not LIVE changes its mode alone. -/
theorem State.changeMode_of_not_live (h : s.lines[l].mode ≠ .live) :
    s.changeMode l mode = s.setLine l (s.lines[l].changeMode mode s.tables.line[l].silenceLimit s.tick) :=
  if_neg fun ⟨hlive, _⟩ => h hlive

/-- When a line leaves LIVE, the pair keeps its holds only while another line of it is LIVE (R113). -/
theorem State.changeMode_of_live {f : FeedLine} (h : s.lines[l].mode = .live)
    (hf : s.lines[l].changeMode mode s.tables.line[l].silenceLimit s.tick = f) :
    s.changeMode l mode = if (s.setLine l f).pairLive (pairOf l) then s.setLine l f
      else (s.setLine l f).releaseAll (pairOf l) := by
  rw [← hf]
  cases hlive : (s.setLine l (s.lines[l].changeMode mode s.tables.line[l].silenceLimit s.tick)).pairLive (pairOf l) with
  | true =>
    rw [if_pos rfl]
    refine if_neg fun ⟨_, hdead⟩ => ?_
    rw [hlive] at hdead
    cases hdead
  | false =>
    rw [if_neg Bool.false_ne_true]
    exact if_pos ⟨h, hlive⟩

end

section
variable {f : FeedLine} {mode : LineMode} {limit tick : Nat}

theorem FeedLine.changeMode_from_off (hoff : f.mode = .off) (hmode : mode ≠ .off) :
    f.changeMode mode limit tick = ({ f with mode := mode }).startSilence limit tick := by
  have hlive : ¬f.mode = .live := by rw [hoff]; nofun
  simp only [FeedLine.changeMode, if_neg hlive, if_neg hmode, if_pos hoff]

theorem FeedLine.changeMode_monitor_live (h : f.mode = .monitor) :
    f.changeMode .live limit tick = { f with mode := .live } := by
  have hlive : ¬f.mode = .live := by rw [h]; nofun
  have hoff : ¬f.mode = .off := by rw [h]; nofun
  simp only [FeedLine.changeMode, if_neg hlive, if_neg hoff]
  rfl

theorem FeedLine.changeMode_monitor_off (h : f.mode = .monitor) :
    f.changeMode .off limit tick = { f with
      mode := .off, reception := none, silenceStart := none, silent := false } := by
  have hlive : ¬f.mode = .live := by rw [h]; nofun
  simp only [FeedLine.changeMode, if_neg hlive, if_true, FeedLine.stopSilence]

theorem FeedLine.changeMode_live_monitor (h : f.mode = .live) :
    f.changeMode .monitor limit tick = { f.flush with mode := .monitor } := by
  have hoff : ¬f.mode = .off := by rw [h]; nofun
  simp only [FeedLine.changeMode, if_pos h, if_neg hoff]
  rfl

theorem FeedLine.changeMode_live_off (h : f.mode = .live) :
    f.changeMode .off limit tick = { f.flush with
      mode := .off, reception := none, silenceStart := none, silent := false } := by
  simp only [FeedLine.changeMode, if_pos h, if_true, FeedLine.stopSilence]

end

/-- Settles O46: the gate, the mode the line is in, and the changes of mode by the mode before. -/
theorem setLineModeChangesMode : Obligations.SetLineModeChangesMode := by
  intro s c l mode h f flushed stopped put finish left enabled
  have ended {t : State} {st : Status} {data : List Byte} (hx : s.serveLineMode l mode = ⟨t, st, data⟩) :
      exec .setLineMode s = .next (t.afterRequest c st data) := by
    rw [exec_setLineMode h, hx]
  have changed (hallowed : mode = .live → enabled = true) (hmode : f.mode ≠ mode) {t : State}
      (ht : s.changeMode l mode = t) : exec .setLineMode s = finish t :=
    ended ((State.serveLineMode_changes hallowed hmode).trans (congrArg (Served.mk · .done []) ht))
  refine ⟨fun hmode hdisabled => ended (State.serveLineMode_busy hmode hdisabled),
    fun hsame hallowed => ended (State.serveLineMode_same hallowed hsame.symm),
    fun hoff hmode hallowed hup hlimit => ?_, fun hoff hmode hallowed hnot => ?_, fun hmonitor hmode hallowed => ?_,
    fun hmonitor hmode => ?_, fun hlive hmode => ?_, fun hlive hmode => ?_⟩
  · refine changed hallowed (by rw [hoff]; exact hmode.symm)
      ((State.changeMode_of_not_live (by rw [hoff]; nofun)).trans ?_)
    rw [FeedLine.changeMode_from_off hoff hmode,
      ({ f with mode := mode } : FeedLine).startSilence_starts s.tick hup hmode hlimit]
    rfl
  · refine changed hallowed (by rw [hoff]; exact hmode.symm)
      ((State.changeMode_of_not_live (by rw [hoff]; nofun)).trans ?_)
    rw [FeedLine.changeMode_from_off hoff hmode,
      ({ f with mode := mode } : FeedLine).startSilence_leaves s.tick (hnot.imp_right .inr)]
    rfl
  · subst hmode
    refine changed (fun _ => hallowed) (by rw [hmonitor]; nofun)
      ((State.changeMode_of_not_live (by rw [hmonitor]; nofun)).trans ?_)
    rw [FeedLine.changeMode_monitor_live hmonitor]
    rfl
  · subst hmode
    refine changed nofun (by rw [hmonitor]; nofun) ((State.changeMode_of_not_live (by rw [hmonitor]; nofun)).trans ?_)
    rw [FeedLine.changeMode_monitor_off hmonitor]
    rfl
  · subst hmode
    exact changed nofun (by rw [hlive]; nofun)
      (State.changeMode_of_live hlive (FeedLine.changeMode_live_monitor hlive))
  · subst hmode
    exact changed nofun (by rw [hlive]; nofun) (State.changeMode_of_live hlive (FeedLine.changeMode_live_off hlive))

/-! ## CLEAR_FEEDS and CLEAR_NOTICES (R95, R170) -/

theorem exec_clearFeeds {s : State} {c : CommandInFlight} {target : Option PairId}
    (h : s.Serving c (.clearFeeds target)) :
    exec .clearFeeds s = .next ((s.serveClearFeeds target).state.afterRequest c (s.serveClearFeeds target).status
      (s.serveClearFeeds target).data) := by
  rw [exec, execClearFeeds, h.served _ rfl]

theorem exec_clearNotices {s : State} {c : CommandInFlight} (h : s.Serving c .clearNotices) :
    exec .clearNotices s = .next (s.clearNoticeSources.afterRequest c .done []) := by
  rw [exec, execClearNotices, h.served _ rfl, State.answer]

/-- The pairs of a set are cleared, with the channels that belong to them, and nothing else is changed (R95). -/
structure State.PairsCleared (s t : State) (cleared : PairId → Prop) : Prop where
  rest : t = { s with pairs := t.pairs, channels := t.channels }
  pair : ∀ p, cleared p → t.pairs[p] = { s.pairs[p] with
    pool := [], window := [], lag := .empty, dropBefore := false
    counters := { s.pairs[p].counters with flushed := satAdd s.pairs[p].counters.flushed s.pairs[p].pool.length } }
  other : ∀ p, ¬cleared p → t.pairs[p] = s.pairs[p]
  channel : ∀ c : ChannelId, s.tables.channel[c].enabled = true → cleared s.tables.channel[c].pair →
    t.channels[c] = s.channels[c].unsee
  otherChannel : ∀ c : ChannelId, ¬(s.tables.channel[c].enabled = true ∧ cleared s.tables.channel[c].pair) →
    t.channels[c] = s.channels[c]

namespace State.PairsCleared

theorem refl (s : State) : s.PairsCleared s fun _ => False :=
  ⟨rfl, fun _ h => h.elim, fun _ _ => rfl, fun _ _ h => h.elim, fun _ _ => rfl⟩

/-- One more pair cleared. -/
theorem clearPair {s t : State} {cleared : PairId → Prop} (h : s.PairsCleared t cleared) (p : PairId)
    (hp : ¬cleared p) : s.PairsCleared (t.clearPair p) fun q => cleared q ∨ q = p := by
  obtain ⟨hrest, hpair, hother, hchannel⟩ := t.clearPair_spec p
  have htables : t.tables = s.tables := by rw [h.rest]
  have hbelongs (c : ChannelId) : t.tables.channel[c].belongsTo p = true ↔
      s.tables.channel[c].enabled = true ∧ s.tables.channel[c].pair = p := by
    rw [htables, ChannelEntry.belongsTo, Bool.and_eq_true, beq_iff_eq]
  refine ⟨?_, fun q hq => ?_, fun q hq => ?_, fun c henabled hc => ?_, fun c hc => ?_⟩
  · rw [hrest, h.rest]
  · by_cases hqp : q = p
    · rw [hqp, hpair, h.other p hp]
    · rw [hother q hqp, h.pair q (hq.resolve_right hqp)]
  · obtain ⟨hq, hqp⟩ := not_or.1 hq
    rw [hother q hqp, h.other q hq]
  · rw [hchannel]
    split_ifs with hnow
    · obtain ⟨-, rfl⟩ := (hbelongs c).1 hnow
      rw [h.otherChannel c fun hbefore => hp hbefore.2]
    · exact h.channel c henabled (hc.resolve_right fun e => hnow ((hbelongs c).2 ⟨henabled, e⟩))
  · rw [hchannel, if_neg fun hnow => ?_, h.otherChannel c fun hbefore => hc ⟨hbefore.1, .inl hbefore.2⟩]
    obtain ⟨henabled, e⟩ := (hbelongs c).1 hnow
    exact hc ⟨henabled, .inr e⟩

end State.PairsCleared

/-- CLEAR_FEEDS clears the pair named, or every pair (R95). -/
theorem State.serveClearFeeds_cleared (s : State) (target : Option PairId) :
    s.PairsCleared (s.serveClearFeeds target).state fun p => target = none ∨ target = some p := by
  cases target with
  | some p =>
    have hcleared := (State.PairsCleared.refl s).clearPair p id
    have hset : (fun q => False ∨ q = p) = fun q => some p = none ∨ some p = some q := by
      funext q
      simp [eq_comm]
    rwa [hset] at hcleared
  | none =>
    have hcleared := ((((State.PairsCleared.refl s).clearPair 0 id).clearPair 1 (by decide)).clearPair 2
      (by decide)).clearPair 3 (by decide)
    have hset : (fun q : PairId => (((False ∨ q = 0) ∨ q = 1) ∨ q = 2) ∨ q = 3) =
        fun q => (none : Option PairId) = none ∨ none = some q := by
      funext q
      revert q
      decide
    rwa [hset] at hcleared

/-- Settles O48: the pairs cleared by CLEAR_FEEDS, and the sources by CLEAR_NOTICES. -/
theorem clearFeedsAndClearNotices : Obligations.ClearFeedsAndClearNotices := by
  refine fun s c => ⟨fun target h => ?_, fun h => exec_clearNotices h⟩
  have hcleared := s.serveClearFeeds_cleared target
  have hserved : (s.serveClearFeeds target).status = .done ∧ (s.serveClearFeeds target).data = [] := by
    cases target <;> exact ⟨rfl, rfl⟩
  refine ⟨(s.serveClearFeeds target).state, ?_, hcleared.rest, hcleared.pair, fun p hall hnot => ?_, fun ch => ?_⟩
  · rw [exec_clearFeeds h, hserved.1, hserved.2]
  · exact hcleared.other p (not_or.2 ⟨hall, hnot⟩)
  · split_ifs with hch
    · exact hcleared.channel ch hch.1 hch.2
    · exact hcleared.otherChannel ch hch

end Sys2Proof.Machine
end

section
/-! The end of a command, RESTART, and the taking of commands (R140, R145 to R149, R154, R160, R161, R174). -/

namespace Sys2Proof.Machine

/-! ## The end of a command (R140, R147, R154, R160, R174) -/

theorem State.handReply_room {s : State} {d : DlineId} (r : Reply) (h : s.deliveries[d].replies.length < 4) :
    s.handReply d r = s.setDelivery d { s.deliveries[d] with replies := s.deliveries[d].replies ++ [r] } := if_pos h

theorem State.handReply_full {s : State} {d : DlineId} (r : Reply) (h : 4 ≤ s.deliveries[d].replies.length) :
    s.handReply d r = s.raise sourceReplyDropped := if_neg (Nat.not_lt.2 h)

/-- A reply frame in its bytes: the headers, then one result per request in order (R154, R174). -/
theorem replyFrame_eq (destination source : Mac) (malformed : Bool) (token : BitVec 16) (rs : List Result) :
    replyFrame destination source malformed token rs = macField destination ++ macField source ++
      [0x88, 0xB5, 0x4F, 0x43, 2, if malformed then 1 else 0] ++ natBytes 2 token.toNat ++ field 1 rs.length ++
      rs.flatMap fun r => r.kind :: (field 1 r.status.code ++ field 2 r.data.length ++ r.data) := by
  have hflag : field 1 malformed.toNat = [if malformed then 1 else 0] := by
    cases malformed <;> rfl
  have hkind : field 1 2 = [2] := rfl
  rw [replyFrame, managementHeader, hflag, hkind]
  simp only [List.append_assoc, List.cons_append, List.nil_append]
  rfl

theorem endsInRestart_iff (rs : List Result) :
    endsInRestart rs = true ↔ ∃ before data, rs = before ++ [⟨0x3F, .done, data⟩] := by
  rw [endsInRestart]
  constructor
  · intro h
    split at h
    · rename_i r hlast
      obtain ⟨before, rfl⟩ := List.getLast?_eq_some_iff.1 hlast
      rw [Bool.and_eq_true, beq_iff_eq, beq_iff_eq] at h
      obtain ⟨hkind, hstatus⟩ := h
      exact ⟨before, r.data, by rw [← hkind, ← hstatus]⟩
    · cases h
  · rintro ⟨before, data, rfl⟩
    rw [List.getLast?_append_cons]
    rfl

/-- The reply of a command, and whether its departure starts a RESTART. -/
def State.replyOf (s : State) (c : CommandInFlight) (restart : Bool) : Reply :=
  ⟨replyFrame c.source (stationAddress s.strapLatch) false c.token c.results, restart⟩

theorem State.endCommand_plain {s : State} {c : CommandInFlight} (h : ¬endsInRestart c.results = true) :
    s.endCommand c = (s.setUnit .idle).handReply c.dline (s.replyOf c false) := by
  rw [Bool.not_eq_true] at h
  simp only [State.endCommand, h, Bool.false_eq_true, if_false]
  rfl

theorem State.endCommand_restart {s : State} {c : CommandInFlight} (h : endsInRestart c.results = true) :
    s.endCommand c = if 4 ≤ s.deliveries[c.dline].replies.length then
      ((s.setUnit .idle).handReply c.dline (s.replyOf c true)).startRestart
      else ((s.setUnit .idle).handReply c.dline (s.replyOf c true)).setUnit .restartPending := by
  simp only [State.endCommand, h, if_true, decide_eq_true_eq]
  rfl

/-- Settles O50: by the room in the reply queue, and by whether the last result is a RESTART with DONE. -/
theorem commandEndsWithReply : Obligations.CommandEndsWithReply := by
  intro s c x frame restart
  have hrestart : endsInRestart c.results = true ↔ restart := endsInRestart_iff c.results
  have hframe : replyFrame c.source (stationAddress s.strapLatch) false c.token c.results = frame :=
    replyFrame_eq _ _ false _ _
  have hreply (b : Bool) : s.replyOf c b = ⟨frame, b⟩ := congrArg (Reply.mk · b) hframe
  refine ⟨fun hroom hplain => ?_, fun hfull hplain => ?_, fun hroom hlast => ?_, fun hfull hlast => ?_⟩
  · rw [State.endCommand_plain (mt hrestart.1 hplain), hreply, (s.setUnit .idle).handReply_room _ hroom]
    rfl
  · rw [State.endCommand_plain (mt hrestart.1 hplain), (s.setUnit .idle).handReply_full _ hfull]
    rfl
  · rw [State.endCommand_restart (hrestart.2 hlast), if_neg (Nat.not_le.2 hroom), hreply,
      (s.setUnit .idle).handReply_room _ hroom]
    rfl
  · rw [State.endCommand_restart (hrestart.2 hlast), if_pos hfull, (s.setUnit .idle).handReply_full _ hfull]
    rfl

/-! ## RESTART (R145, R146, R160, R161) -/

theorem exec_restart {s : State} {c : CommandInFlight} (h : s.Serving c .restart) :
    exec .restart s = .next ((s.serveRestart c).state.afterRequest c (s.serveRestart c).status (s.serveRestart c).data) := by
  rw [exec, execRestart, h.served _ rfl]

/-- Settles O51: the place of the request at its completion, and what the start of RESTART resets and lets run on. -/
theorem restartResetsEveryBlock : Obligations.RestartResetsEveryBlock := by
  intro s
  have transmitter (d : DlineId) :
      s.startRestart.deliveries[d].transmitter = s.deliveries[d].transmitter.afterRestart s.tick := by
    rw [s.startRestart_deliveries]
  refine ⟨fun c h hlast => ?_, fun c h hbefore => ?_, s.startRestart_holdsResetValues, rfl, rfl, rfl,
    fun d => ⟨fun h => ?_, fun t h => ⟨t.afterRestart s.tick, ?_, rfl, rfl, rfl⟩,
      fun t h => ⟨t.afterRestart s.tick, ?_, rfl, rfl, rfl⟩⟩⟩
  · rw [exec_restart h, State.serveRestart, if_pos hlast]
  · rw [exec_restart h, State.serveRestart, if_neg hbefore]
  · rw [transmitter d, h, Transmitter.afterRestart]
  · rw [transmitter d, h, Transmitter.afterRestart]
  · rw [transmitter d, h, Transmitter.afterRestart]

/-! ## The walk over a command's entries (R149) -/

/-- A request as a command carries it. -/
def Request.entry (r : Request) : List Byte := r.kind :: (natBytes 2 r.args.length ++ r.args)

/-- The walk reads back exactly the entries it finds, one after another. -/
theorem walkEntries_sound (count : Nat) : ∀ (bs : List Byte) (requests : List Request),
    walkEntries count bs = some requests →
    requests.length = count ∧ ∃ rest, bs = requests.flatMap Request.entry ++ rest := by
  induction count with
  | zero =>
    intro bs requests h
    obtain rfl := Option.some.inj h
    exact ⟨rfl, bs, rfl⟩
  | succ k ih =>
    intro bs requests h
    unfold walkEntries at h
    split at h
    · rename_i heq
      cases heq
    · rename_i kind high low rest heq
      cases heq
      dsimp only at h
      split_ifs at h with hfits
      obtain ⟨more, hmore, rfl⟩ := Option.map_eq_some_iff.1 h
      obtain ⟨hlength, tail, htail⟩ := ih _ _ hmore
      have hargs : (rest.take (bigEndian [high, low])).length = bigEndian [high, low] :=
        List.length_take_of_le hfits
      have hsize : natBytes 2 (bigEndian [high, low]) = [high, low] := natBytes_bigEndian [high, low]
      refine ⟨congrArg Nat.succ hlength, tail, ?_⟩
      rw [List.flatMap_cons, Request.entry, hargs, hsize, List.append_assoc, ← htail]
      simp only [List.cons_append, List.nil_append, List.take_append_drop]
    · cases h

/-- The walk finds every entry that fits (R149). -/
theorem walkEntries_complete (requests : List Request) (rest : List Byte)
    (h : ∀ r ∈ requests, r.args.length < 65536) :
    walkEntries requests.length (requests.flatMap Request.entry ++ rest) = some requests := by
  induction requests with
  | nil => rfl
  | cons r more ih =>
    obtain ⟨hr, hmore⟩ := List.forall_mem_cons.1 h
    have hsize : bigEndian (natBytes 2 r.args.length) = r.args.length := by
      rw [bigEndian_natBytes]
      exact Nat.mod_eq_of_lt hr
    obtain ⟨high, low, hbytes⟩ := List.length_eq_two.1 (natBytes_length 2 r.args.length)
    rw [hbytes] at hsize
    have hlist : (r :: more).flatMap Request.entry ++ rest =
        r.kind :: high :: low :: (r.args ++ (more.flatMap Request.entry ++ rest)) := by
      simp [Request.entry, hbytes]
    rw [hlist, List.length_cons, walkEntries]
    simp only [hsize, List.length_append, Nat.le_add_right, if_true, List.drop_left, List.take_left, ih hmore,
      Option.map_some]

theorem requestsOf_of_count {frame : List Byte} (h : 1 ≤ numAt frame 20 1 ∧ numAt frame 20 1 ≤ 16) :
    requestsOf frame = walkEntries (numAt frame 20 1) (frame.drop 21) := if_pos h

/-! ## The taking of a command (R147, R149) -/

theorem State.takeCommand_malformed {s : State} {k : InboxCommand} (h : requestsOf k.frame = none) :
    s.takeCommand k = s.handReply k.dline
      ⟨replyFrame (macAt k.frame 6) (stationAddress s.strapLatch) true (tokenOf k.frame) [], false⟩ := by
  simp only [State.takeCommand, h]

theorem tokenOf_toNat (frame : List Byte) : (tokenOf frame).toNat = numAt frame 18 2 := by
  rw [tokenOf, BitVec.toNat_ofNat]
  exact Nat.mod_eq_of_lt (numAt_lt frame 18 2)

/-- The IDLE unit takes the oldest command, and what follows is that of an event (R147). -/
theorem State.settleUnit_takes {s : State} {k : InboxCommand} {rest : List InboxCommand}
    (hunit : s.settle.unit = .idle) (hinbox : s.settle.inbox = k :: rest) :
    s.settleUnit = ((s.settle.setInbox rest).takeCommand k).settleUnit := by
  have htaken := s.settle.takeCommands_succ rest.length k rest hunit hinbox
  have hleft : (((s.settle.setInbox rest).takeCommand k).settle).inbox.length ≤ rest.length := by
    rcases State.settle_inbox ((s.settle.setInbox rest).takeCommand k) with h | h <;> rw [h]
    · rcases (s.settle.setInbox rest).takeCommand_inbox k with h | h <;> rw [h]
      · exact Nat.le_refl _
      · exact Nat.zero_le _
    · exact Nat.zero_le _
  calc s.settleUnit = s.settle.takeCommands (rest.length + 1) := by rw [State.settleUnit, hinbox, List.length_cons]
    _ = (((s.settle.setInbox rest).takeCommand k).settle).takeCommands rest.length := htaken
    _ = ((s.settle.setInbox rest).takeCommand k).settleUnit :=
      State.takeCommands_turns _ _ _ hleft (Nat.le_refl _)

/-- Settles O52: the walk both ways, the malformed command by the room in the queue, and the taking in what follows an
event. -/
theorem malformedCommandsAreAnswered : Obligations.MalformedCommandsAreAnswered := by
  refine ⟨fun s k => ?_, fun s => ⟨fun hnone => State.takeCommands_stop _ _ hnone,
    fun k rest hunit hinbox => State.settleUnit_takes hunit hinbox⟩⟩
  intro count queue
  have hmalformed : replyFrame (macAt k.frame 6) (stationAddress s.strapLatch) true (tokenOf k.frame) [] =
      macField (macAt k.frame 6) ++ macField (stationAddress s.strapLatch) ++ [0x88, 0xB5, 0x4F, 0x43, 2, 1] ++
        natBytes 2 (numAt k.frame 18 2) ++ [0] := by
    rw [replyFrame_eq, tokenOf_toNat]
    exact List.append_nil _
  refine ⟨fun hcount => ?_, fun requests h => ?_, fun header rest requests hheader hcount hlow hhigh hargs hframe => ?_,
    fun hnone hroom => ?_, fun hnone hfull => ?_, fun requests h => ?_⟩
  · exact if_neg fun ⟨hlow, hhigh⟩ => by omega
  · by_cases hrange : 1 ≤ count ∧ count ≤ 16
    · exact walkEntries_sound count _ requests ((requestsOf_of_count hrange).symm.trans h)
    · have hnone : requestsOf k.frame = none := if_neg hrange
      rw [hnone] at h
      cases h
  · have hdrop : k.frame.drop 21 = requests.flatMap Request.entry ++ rest := by
      rw [hframe, List.append_assoc, ← hheader]
      exact List.drop_left
    rw [requestsOf_of_count ⟨hlow.trans_eq hcount.symm, hcount.trans_le hhigh⟩, hdrop]
    change walkEntries count _ = _
    rw [hcount]
    exact walkEntries_complete requests rest hargs
  · rw [State.takeCommand_malformed hnone, State.handReply_room _ hroom, hmalformed]
    rfl
  · rw [State.takeCommand_malformed hnone, State.handReply_full _ hfull]
    rfl
  · simp only [State.takeCommand, h]
    rfl

end Sys2Proof.Machine
end

section
/-! How the requests of a command follow one another (R150 to R153, R158). -/

namespace Sys2Proof.Machine

/-! ## One request after another (R150 to R152) -/

/-- A unit that executes a request takes no command in what follows an event (R147). -/
theorem State.settleUnit_of_executing {s : State} {c : CommandInFlight} (h : s.unit = .executing c) :
    s.settleUnit = s.settle := by
  have hbusy : s.NoCommandWaits := fun hidle => by
    rw [h] at hidle
    cases hidle
  refine State.takeCommands_stop _ _ ?_
  by_cases hidle : s.settle.unit = .idle
  · exact .inr (s.settle_noCommandWaits hbusy hidle)
  · exact .inl hidle

/-- The command whose first request has ended with this result, the others still to be taken up. -/
def CommandInFlight.kept (c : CommandInFlight) (r : Request) (rest : List Request) (st : Status) (data : List Byte) :
    CommandInFlight :=
  { c with results := c.results ++ [Result.mk r.kind st data], remaining := rest, written := 0, clamped := false }

section
variable {c : CommandInFlight} {r nxt : Request} {rest more : List Request} {st why : Status} {data : List Byte}

/-- A request that does not stop the command: the next one is taken up. -/
theorem CommandInFlight.complete_goes_on (h : c.remaining = r :: rest)
    (hgo : c.stopOnFault = true → st.isFault = false) : c.complete st data = (c.kept r rest st data).advance := by
  have hnot : (c.stopOnFault && st.isFault) = false := by
    cases hstop : c.stopOnFault with
    | false => rfl
    | true => rw [hgo hstop]; rfl
  simp only [CommandInFlight.complete, h, hnot, Bool.false_eq_true, if_false]
  rfl

/-- A fault under stop-on-fault skips the rest. -/
theorem CommandInFlight.complete_stops (h : c.remaining = r :: rest) (hstop : c.stopOnFault = true)
    (hfault : st.isFault = true) : c.complete st data =
      { c.kept r rest st data with
        results := c.results ++ [Result.mk r.kind st data] ++ rest.map skipped, remaining := [] } := by
  have hboth : (c.stopOnFault && st.isFault) = true := by rw [hstop, hfault]; rfl
  simp only [CommandInFlight.complete, h, hboth, if_true]
  rfl

/-- A request that passes the checks is executed. -/
theorem CommandInFlight.advance_passes (h : c.remaining = nxt :: more)
    (hok : ∃ a, examine c.broadcast c.results nxt more.length = .ok a) : c.advance = c := by
  obtain ⟨a, ha⟩ := hok
  simp only [CommandInFlight.advance, h, decideAtOnce, ha]
  rw [← h]

/-- A request that the checks decide completes at once. -/
theorem CommandInFlight.advance_decides (h : c.remaining = nxt :: more)
    (herror : examine c.broadcast c.results nxt more.length = .error why)
    (hwritten : c.written = 0) (hclamped : c.clamped = false) : c.advance = c.complete why [] := by
  by_cases hstop : (c.stopOnFault && why.isFault) = true
  · simp only [CommandInFlight.advance, CommandInFlight.complete, h, decideAtOnce, herror, hstop, if_true]
    rw [hwritten, hclamped]
  · simp only [CommandInFlight.advance, CommandInFlight.complete, h, decideAtOnce, herror, if_neg hstop]
    rw [hwritten, hclamped]

theorem CommandInFlight.advance_done (h : c.remaining = []) : c.advance = c := by
  simp only [CommandInFlight.advance, h, decideAtOnce]
  rw [← h]

end

theorem State.carryOn_of_done {s : State} {c : CommandInFlight} (h : c.remaining = []) : s.carryOn c = s.endCommand c := by
  rcases s.carryOn_cases c with ⟨-, e⟩ | ⟨hmore, -⟩
  · exact e
  · exact absurd h hmore

theorem State.carryOn_of_more {s : State} {c : CommandInFlight} (h : c.remaining ≠ []) :
    s.carryOn c = s.setUnit (.executing c) := by
  rcases s.carryOn_cases c with ⟨hdone, -⟩ | ⟨-, e⟩
  · exact absurd hdone h
  · exact e

/-! ## The checks (R151, R153) -/

theorem resultsSize_eq (rs : List Result) : resultsSize rs = (rs.map fun x => 4 + x.data.length).sum := by
  have fold : ∀ (rs : List Result) (n : Nat), rs.foldl (fun n r => n + r.size) n =
      n + (rs.map fun x => 4 + x.data.length).sum := by
    intro rs
    induction rs with
    | nil => exact fun n => (Nat.add_zero n).symm
    | cons r more ih =>
      intro n
      rw [List.foldl_cons, ih, List.map_cons, List.sum_cons, Result.size, Nat.add_assoc]
  exact (fold rs 0).trans (Nat.zero_add _)

section
variable {broadcast : Bool} {results : List Result} {r : Request} {after : Nat}

theorem examine_unknown (h : knownKind r.kind.toNat = false) : examine broadcast results r after = .error .unknown := by
  rw [examine, h]
  rfl

theorem examine_broadcast (hknown : knownKind r.kind.toNat = true) (hbroadcast : broadcast = true)
    (h : r.kind.toNat ≠ 1) : examine broadcast results r after = .error .refused := by
  have hkind : (r.kind != 0x01) = true := bne_iff_ne.2 fun e => h (by rw [e]; rfl)
  rw [examine, hknown, hbroadcast, hkind]
  rfl

/-- A request of a known kind that a broadcast command may carry passes the first two checks. -/
theorem not_refused_of_kind (h : broadcast = true → r.kind.toNat = 1) : ¬(broadcast && r.kind != 0x01) = true := by
  rw [Bool.and_eq_true, bne_iff_ne]
  exact fun ⟨hbroadcast, hkind⟩ => hkind (BitVec.eq_of_toNat_eq (h hbroadcast))

theorem examine_bad_argument (hknown : knownKind r.kind.toNat = true) (h : broadcast = true → r.kind.toNat = 1)
    (hnone : r.action = none) : examine broadcast results r after = .error .badArgument := by
  rw [examine, hknown, if_neg (by decide), if_neg (not_refused_of_kind h), hnone]

/-- The size of the reply decides a request whose arguments pass (R153). -/
theorem examine_size {a : Action} (hknown : knownKind r.kind.toNat = true) (h : broadcast = true → r.kind.toNat = 1)
    (hsome : r.action = some a) : examine broadcast results r after =
      if 2044 < replySize results a.dataLength after then .error .refused else .ok a := by
  rw [examine, hknown, if_neg (by decide), if_neg (not_refused_of_kind h), hsome]
  rfl

end

end Sys2Proof.Machine
end

section
/-! The arguments each kind of request accepts (R151, R156 to R158, R174, R175). -/

namespace Sys2Proof.Machine

/-! ## The parsers -/

section
variable {bs : List Byte} {a : Action}

theorem TableId.ofNumber_eq (n : Nat) : TableId.ofNumber n =
    [TableId.line, .profile, .channel, .reference, .timebase, .notice, .delivery][n]? := by
  match n with
  | 0 | 1 | 2 | 3 | 4 | 5 | 6 => rfl
  | n + 7 => rfl

theorem LineMode.ofCode_code (m : LineMode) : LineMode.ofCode m.code = some m := by
  cases m <;> rfl

theorem LineMode.code_of_ofCode {n : Nat} {m : LineMode} (h : LineMode.ofCode n = some m) : n = m.code := by
  unfold LineMode.ofCode at h
  split at h
  · rw [← Option.some.inj h]; rfl
  · rw [← Option.some.inj h]; rfl
  · rw [← Option.some.inj h]; rfl
  · cases h

/-- The three scopes of READ_COUNTERS (R156). -/
theorem parseReadCounters_some (h : parseReadCounters bs = some a) : ∃ clear : Bool, numAt bs 2 1 = clear.toNat ∧
    ((numAt bs 0 1 = 0 ∧ ∃ l : LineId, numAt bs 1 1 = l.val ∧ a = .readCountersLine l clear) ∨
      (numAt bs 0 1 = 1 ∧ ∃ p : PairId, numAt bs 1 1 = p.val ∧ a = .readCountersPair p clear) ∨
      (numAt bs 0 1 = 2 ∧ ∃ d : DlineId, numAt bs 1 1 = d.val ∧ a = .readCountersDelivery d clear)) := by
  unfold parseReadCounters at h
  split at h
  · rename_i clear hscope hclear
    obtain ⟨l, hl, rfl⟩ := Option.map_eq_some_iff.1 h
    exact ⟨clear, (boolAt_iff ..).1 hclear, .inl ⟨hscope, l, (finAt_iff ..).1 hl, rfl⟩⟩
  · rename_i clear hscope hclear
    obtain ⟨p, hp, rfl⟩ := Option.map_eq_some_iff.1 h
    exact ⟨clear, (boolAt_iff ..).1 hclear, .inr (.inl ⟨hscope, p, (finAt_iff ..).1 hp, rfl⟩)⟩
  · rename_i clear hscope hclear
    obtain ⟨d, hd, rfl⟩ := Option.map_eq_some_iff.1 h
    exact ⟨clear, (boolAt_iff ..).1 hclear, .inr (.inr ⟨hscope, d, (finAt_iff ..).1 hd, rfl⟩)⟩
  · cases h

theorem parseReadLag_some (h : parseReadLag bs = some a) : ∃ (p : PairId) (clear : Bool),
    numAt bs 0 1 = p.val ∧ numAt bs 1 1 = clear.toNat ∧ a = .readLag p clear := by
  unfold parseReadLag at h
  split at h
  · rename_i p clear hp hclear
    exact ⟨p, clear, (finAt_iff ..).1 hp, (boolAt_iff ..).1 hclear, (Option.some.inj h).symm⟩
  · cases h

theorem parseSetLineMode_some (h : parseSetLineMode bs = some a) : ∃ (l : LineId) (mode : LineMode),
    numAt bs 0 1 = l.val ∧ numAt bs 1 1 = mode.code ∧ a = .setLineMode l mode := by
  unfold parseSetLineMode at h
  split at h
  · rename_i l mode hl hmode
    exact ⟨l, mode, (finAt_iff ..).1 hl, LineMode.code_of_ofCode hmode, (Option.some.inj h).symm⟩
  · cases h

theorem parseClearFeeds_some (h : parseClearFeeds bs = some a) :
    (numAt bs 0 1 = 255 ∧ a = .clearFeeds none) ∨ ∃ p : PairId, numAt bs 0 1 = p.val ∧ a = .clearFeeds (some p) := by
  unfold parseClearFeeds at h
  split_ifs at h with hall
  · exact .inl ⟨hall, (Option.some.inj h).symm⟩
  · obtain ⟨p, hp, rfl⟩ := Option.map_eq_some_iff.1 h
    exact .inr ⟨p, (finAt_iff ..).1 hp, rfl⟩

theorem parseTableRead_some (h : parseTableRead bs = some a) : ∃ table start count,
    TableId.ofNumber (numAt bs 0 1) = some table ∧ numAt bs 1 2 = start ∧ numAt bs 3 1 = count ∧ 1 ≤ count ∧
      count ≤ 16 ∧ start + count ≤ table.entries ∧ a = .tableRead table start count := by
  unfold parseTableRead at h
  split at h
  · cases h
  · rename_i table htable
    dsimp only at h
    split_ifs at h with hrange
    obtain ⟨hlow, hhigh, hend⟩ := hrange
    exact ⟨table, _, _, htable, rfl, rfl, hlow, hhigh, hend, (Option.some.inj h).symm⟩

/-- The pieces of a TABLE_WRITE make up its bytes. -/
theorem entriesOf_pieces (size count : Nat) : ∀ bs : List Byte, bs.length = count * size →
    (entriesOf bs size count).flatten = bs ∧ (∀ e ∈ entriesOf bs size count, e.length = size) ∧
      (entriesOf bs size count).length = count := by
  induction count with
  | zero =>
    intro bs h
    rw [Nat.zero_mul, List.length_eq_zero_iff] at h
    subst h
    exact ⟨rfl, nofun, rfl⟩
  | succ k ih =>
    intro bs h
    rw [Nat.succ_mul] at h
    have hhead : (bs.take size).length = size := List.length_take_of_le (by omega)
    obtain ⟨hflat, hsizes, hlength⟩ := ih (bs.drop size) (by rw [List.length_drop]; omega)
    have hsplit := entriesOf_cons (bs.take size) (bs.drop size) size k hhead
    rw [List.take_append_drop] at hsplit
    rw [hsplit]
    exact ⟨by rw [List.flatten_cons, hflat, List.take_append_drop], List.forall_mem_cons.2 ⟨hhead, hsizes⟩,
      congrArg Nat.succ hlength⟩

theorem entriesOf_flatten (size : Nat) (entries : List (List Byte)) (h : ∀ e ∈ entries, e.length = size) :
    entriesOf entries.flatten size entries.length = entries := by
  induction entries with
  | nil => rfl
  | cons e more ih =>
    obtain ⟨he, hmore⟩ := List.forall_mem_cons.1 h
    rw [List.flatten_cons, List.length_cons, entriesOf_cons e more.flatten size more.length he, ih hmore]

theorem flatten_length (size : Nat) (entries : List (List Byte)) (h : ∀ e ∈ entries, e.length = size) :
    entries.flatten.length = entries.length * size := by
  induction entries with
  | nil => rw [List.flatten_nil, List.length_nil, List.length_nil, Nat.zero_mul]
  | cons e more ih =>
    obtain ⟨he, hmore⟩ := List.forall_mem_cons.1 h
    rw [List.flatten_cons, List.length_append, he, ih hmore, List.length_cons, Nat.succ_mul, Nat.add_comm]

theorem TableId.entrySize_pos (t : TableId) : 0 < t.entrySize := by
  cases t <;> decide

theorem parseTableWrite_some (h : parseTableWrite bs = some a) : ∃ table entries,
    TableId.ofNumber (numAt bs 0 1) = some table ∧ 3 ≤ bs.length ∧ bs.drop 3 = entries.flatten ∧
      (∀ e ∈ entries, e.length = table.entrySize) ∧ 1 ≤ entries.length ∧ entries.length ≤ 16 ∧
      a = .tableWrite table (numAt bs 1 2) entries := by
  unfold parseTableWrite at h
  split at h
  · cases h
  · rename_i table htable
    dsimp only at h
    split_ifs at h with hrange
    obtain ⟨hlength, hwhole, hlow, hhigh⟩ := hrange
    have hbytes : (bs.drop 3).length = (bs.length - 3) / table.entrySize * table.entrySize := by
      rw [List.length_drop, Nat.div_mul_cancel (Nat.dvd_of_mod_eq_zero hwhole)]
    obtain ⟨hflat, hsizes, hcount⟩ := entriesOf_pieces table.entrySize _ _ hbytes
    exact ⟨table, _, htable, hlength, hflat.symm, hsizes, hlow.trans_eq hcount.symm, hcount.trans_le hhigh,
      (Option.some.inj h).symm⟩

theorem parseTableWrite_of_entries {table : TableId} {entries : List (List Byte)}
    (htable : TableId.ofNumber (numAt bs 0 1) = some table) (hlength : 3 ≤ bs.length)
    (hflat : bs.drop 3 = entries.flatten) (hsizes : ∀ e ∈ entries, e.length = table.entrySize)
    (hlow : 1 ≤ entries.length) (hhigh : entries.length ≤ 16) :
    parseTableWrite bs = some (.tableWrite table (numAt bs 1 2) entries) := by
  have hbytes : bs.length - 3 = entries.length * table.entrySize := by
    rw [← List.length_drop, hflat, flatten_length _ _ hsizes]
  have hcount : (bs.length - 3) / table.entrySize = entries.length := by
    rw [hbytes, Nat.mul_div_cancel _ table.entrySize_pos]
  have hwhole : (bs.length - 3) % table.entrySize = 0 := by rw [hbytes, Nat.mul_mod_left]
  simp only [parseTableWrite, htable, hcount]
  rw [if_pos ⟨hlength, hwhole, hlow, hhigh⟩, hflat, entriesOf_flatten _ _ hsizes]

end

/-! ## The arguments of each kind (R151) -/

/-- Accepted arguments are those of the action's kind. -/
theorem Request.askedBy_of_action {r : Request} {a : Action} (h : r.action = some a) : a.AskedBy r := by
  have kind {k : Nat} {b : Byte} (hk : r.kind.toNat = k) (hb : b.toNat = k) : r.kind = b :=
    BitVec.eq_of_toNat_eq (hk.trans hb.symm)
  unfold Request.action at h
  dsimp only at h
  split at h
  next hk =>
    split_ifs at h with hn
    obtain rfl := Option.some.inj h
    exact ⟨kind hk rfl, hn⟩
  next hk =>
    split_ifs at h with hn
    obtain rfl := Option.some.inj h
    exact ⟨kind hk rfl, hn⟩
  next hk =>
    split_ifs at h with hn
    obtain ⟨i, hi, rfl⟩ := Option.map_eq_some_iff.1 h
    exact ⟨kind hk rfl, hn, (finAt_iff ..).1 hi⟩
  next hk =>
    split_ifs at h with hn
    obtain ⟨clear, hclear, ⟨hscope, l, hl, rfl⟩ | ⟨hscope, p, hp, rfl⟩ | ⟨hscope, d, hd, rfl⟩⟩ := parseReadCounters_some h
    · exact ⟨kind hk rfl, hn, hscope, hl, hclear⟩
    · exact ⟨kind hk rfl, hn, hscope, hp, hclear⟩
    · exact ⟨kind hk rfl, hn, hscope, hd, hclear⟩
  next hk =>
    split_ifs at h with hrange
    obtain ⟨hn, hlow, hhigh, hend⟩ := hrange
    obtain rfl := Option.some.inj h
    exact ⟨kind hk rfl, hn, rfl, rfl, hlow, hhigh, hend⟩
  next hk =>
    split_ifs at h with hn
    obtain ⟨p, clear, hp, hclear, rfl⟩ := parseReadLag_some h
    exact ⟨kind hk rfl, hn, hp, hclear⟩
  next hk =>
    split_ifs at h with hn
    obtain ⟨clear, hclear, rfl⟩ := Option.map_eq_some_iff.1 h
    exact ⟨kind hk rfl, hn, (boolAt_iff ..).1 hclear⟩
  next hk =>
    split_ifs at h with hn
    obtain ⟨table, start, count, htable, hstart, hcount, hlow, hhigh, hend, rfl⟩ := parseTableRead_some h
    exact ⟨kind hk rfl, hn, (TableId.ofNumber_eq _).symm.trans htable, hstart, hcount, hlow, hhigh, hend⟩
  next hk =>
    obtain ⟨table, entries, htable, hlength, hflat, hsizes, hlow, hhigh, rfl⟩ := parseTableWrite_some h
    exact ⟨kind hk rfl, hlength, (TableId.ofNumber_eq _).symm.trans htable, rfl, hflat, hsizes, hlow, hhigh⟩
  next hk =>
    split_ifs at h with hn
    obtain ⟨l, mode, hl, hmode, rfl⟩ := parseSetLineMode_some h
    exact ⟨kind hk rfl, hn, hl, hmode⟩
  next hk =>
    split_ifs at h with hrange
    obtain ⟨hn, hns⟩ := hrange
    obtain rfl := Option.some.inj h
    exact ⟨kind hk rfl, hn, rfl, rfl, hns⟩
  next hk =>
    split_ifs at h with hn
    obtain rfl := Option.some.inj h
    exact ⟨kind hk rfl, hn, rfl⟩
  next hk =>
    split_ifs at h with hn
    obtain ⟨hall, rfl⟩ | ⟨p, hp, rfl⟩ := parseClearFeeds_some h
    · exact ⟨kind hk rfl, hn, hall⟩
    · exact ⟨kind hk rfl, hn, hp⟩
  next hk =>
    split_ifs at h with hn
    obtain rfl := Option.some.inj h
    exact ⟨kind hk rfl, hn⟩
  next hk =>
    split_ifs at h with hn
    obtain rfl := Option.some.inj h
    exact ⟨kind hk rfl, hn⟩
  next => cases h

/-- The arguments of an action's kind are accepted. -/
theorem Request.action_of_askedBy {r : Request} {a : Action} (h : a.AskedBy r) : r.action = some a := by
  obtain ⟨kind, args⟩ := r
  cases a with
  | identify =>
    obtain ⟨rfl, hn⟩ := h
    exact if_pos hn
  | readTime =>
    obtain ⟨rfl, hn⟩ := h
    exact if_pos hn
  | readReference i =>
    obtain ⟨rfl, hn, hi⟩ := h
    exact (if_pos hn).trans (by rw [(finAt_iff 2 args 0 i).2 hi, Option.map_some])
  | readCountersLine l clear =>
    obtain ⟨rfl, hn, hscope, hl, hclear⟩ := h
    have hvalue : numAt args 0 1 = 0 := hscope
    refine (if_pos hn).trans ?_
    simp only [parseReadCounters, hvalue, (boolAt_iff args 2 clear).2 hclear,
      (finAt_iff 8 args 1 l).2 hl, Option.map_some]
  | readCountersPair p clear =>
    obtain ⟨rfl, hn, hscope, hp, hclear⟩ := h
    have hvalue : numAt args 0 1 = 1 := hscope
    refine (if_pos hn).trans ?_
    simp only [parseReadCounters, hvalue, (boolAt_iff args 2 clear).2 hclear,
      (finAt_iff 4 args 1 p).2 hp, Option.map_some]
  | readCountersDelivery d clear =>
    obtain ⟨rfl, hn, hscope, hd, hclear⟩ := h
    have hvalue : numAt args 0 1 = 2 := hscope
    refine (if_pos hn).trans ?_
    simp only [parseReadCounters, hvalue, (boolAt_iff args 2 clear).2 hclear,
      (finAt_iff 2 args 1 d).2 hd, Option.map_some]
  | readChannels start count =>
    obtain ⟨rfl, hn, rfl, rfl, hlow, hhigh, hend⟩ := h
    exact if_pos ⟨hn, hlow, hhigh, hend⟩
  | readLag p clear =>
    obtain ⟨rfl, hn, hp, hclear⟩ := h
    refine (if_pos hn).trans ?_
    simp only [parseReadLag, (finAt_iff 4 args 0 p).2 hp, (boolAt_iff args 1 clear).2 hclear]
  | readNotices clear =>
    obtain ⟨rfl, hn, hclear⟩ := h
    exact (if_pos hn).trans (by rw [(boolAt_iff args 0 clear).2 hclear, Option.map_some])
  | tableRead table start count =>
    obtain ⟨rfl, hn, htable, rfl, rfl, hlow, hhigh, hend⟩ := h
    have hnumber : TableId.ofNumber (numAt args 0 1) = some table := (TableId.ofNumber_eq _).trans htable
    refine (if_pos hn).trans ?_
    simp only [parseTableRead, hnumber]
    exact if_pos ⟨hlow, hhigh, hend⟩
  | tableWrite table start entries =>
    obtain ⟨rfl, hlength, htable, rfl, hflat, hsizes, hlow, hhigh⟩ := h
    exact parseTableWrite_of_entries ((TableId.ofNumber_eq _).trans htable) hlength hflat hsizes hlow hhigh
  | setLineMode l mode =>
    obtain ⟨rfl, hn, hl, hmode⟩ := h
    have hcode : LineMode.ofCode (numAt args 1 1) = some mode := (congrArg LineMode.ofCode hmode).trans mode.ofCode_code
    refine (if_pos hn).trans ?_
    simp only [parseSetLineMode, (finAt_iff 8 args 0 l).2 hl, hcode]
  | setTime seconds ns =>
    obtain ⟨rfl, hn, rfl, rfl, hns⟩ := h
    exact if_pos ⟨hn, hns⟩
  | trimRate off =>
    obtain ⟨rfl, hn, rfl⟩ := h
    exact if_pos hn
  | clearFeeds pair =>
    obtain ⟨rfl, hn, hpair⟩ := h
    refine (if_pos hn).trans ?_
    cases pair with
    | none => exact if_pos hpair
    | some p =>
      have hvalue : numAt args 0 1 = p.val := hpair
      have hnot : ¬numAt args 0 1 = 255 := by have := p.isLt; omega
      rw [parseClearFeeds, if_neg hnot, (finAt_iff 4 args 0 p).2 hvalue, Option.map_some]
  | clearNotices =>
    obtain ⟨rfl, hn⟩ := h
    exact if_pos hn
  | restart =>
    obtain ⟨rfl, hn⟩ := h
    exact if_pos hn

/-! ## The requests of a command one by one -/

/-- Settles O49: what follows a request by the checks of the next one, the checks in their order, the arguments of each
kind, and the sizes. -/
theorem requestsAreCheckedAndFollow : Obligations.RequestsAreCheckedAndFollow := by
  refine ⟨fun s c r rest st data hremaining => ?_, fun broadcast results r after => ?_,
    fun r a => ⟨Request.askedBy_of_action, Request.action_of_askedBy⟩, rfl, fun a => by cases a <;> rfl⟩
  · intro kept
    refine ⟨fun nxt more hrest hgo hok => ?_, fun nxt more why hrest hgo herror => ?_, fun hstop hfault => ?_,
      fun hrest hgo => ?_, fun total clamped hmore => ?_, fun total clamped hlast => ?_, rfl⟩
    · subst hrest
      have hnext : c.complete st data = c.kept r (nxt :: more) st data :=
        (CommandInFlight.complete_goes_on hremaining hgo).trans (CommandInFlight.advance_passes rfl hok)
      rw [State.afterRequest, hnext, State.carryOn_of_more (c := c.kept r (nxt :: more) st data) nofun,
        State.settleUnit_of_executing rfl]
      rfl
    · subst hrest
      have hnext : c.complete st data = (c.kept r (nxt :: more) st data).complete why [] :=
        (CommandInFlight.complete_goes_on hremaining hgo).trans (CommandInFlight.advance_decides rfl herror rfl rfl)
      rw [State.afterRequest, hnext]
      rfl
    · rw [State.afterRequest, CommandInFlight.complete_stops hremaining hstop hfault, State.carryOn_of_done rfl]
      rfl
    · subst hrest
      have hnext : c.complete st data = c.kept r [] st data :=
        (CommandInFlight.complete_goes_on hremaining hgo).trans (CommandInFlight.advance_done rfl)
      rw [State.afterRequest, hnext, State.carryOn_of_done rfl]
      rfl
    · exact (if_pos hmore).trans (State.settleUnit_of_executing rfl)
    · exact if_neg (Nat.not_lt.2 hlast)
  · intro known size
    have hknown : knownKind r.kind.toNat = true ↔ known := decide_eq_true_iff
    have hsize (n : Nat) : replySize results n after = size n := by rw [replySize, resultsSize_eq]
    refine ⟨fun h => examine_unknown (Bool.eq_false_iff.2 (mt hknown.1 h)),
      fun h hbroadcast hkind => examine_broadcast (hknown.2 h) hbroadcast hkind,
      fun h hkind hnone => examine_bad_argument (hknown.2 h) hkind hnone,
      fun a h hkind hsome => ⟨fun hbig => ?_, fun hfits => ?_⟩⟩
    · rw [examine_size (hknown.2 h) hkind hsome, hsize, if_pos hbig]
    · rw [examine_size (hknown.2 h) hkind hsome, hsize, if_neg (Nat.not_lt.2 hfits)]

end Sys2Proof.Machine
end
